-- ==== Sys2Proof/Word.lean ====
section
/-! DEFINITION. The word types of the NK4216: a byte of the register window, a sixteen-bit quantity (code, period,
sequence number) and a timebase value. -/

namespace Sys2Proof

/-- One byte of the register window or of an SPI transaction (R160). -/
abbrev Byte := BitVec 8

/-- A two-byte quantity: a converter code, a cadence period, a holdoff, a sequence number. -/
abbrev Word16 := BitVec 16

/-- A timebase value (R35). -/
abbrev Word32 := BitVec 32

end Sys2Proof
end

