-- ==== Sys2Proof/Syntax.lean ====
section
/-! DEFINITION. The operations and events of the NK4216, one constructor for each row of spec/opcode_table.json.

A host command is the completion of its code's byte at CMD (R167): its arguments are not in the constructor but in
ARG0–ARG3, which the state holds. A byte of a write transaction carries its value; its address is the port's address
pointer, which the state holds as well. -/

namespace Sys2Proof

/-- One operation or event, whole and indivisible (spec/95_what_each_step_holds.md). -/
inductive Instr where
  /-- START: code 01h completes at CMD (R139). -/
  | start
  /-- PAUSE: code 02h completes at CMD (R140). -/
  | pause
  /-- RESUME: code 03h completes at CMD (R142). -/
  | resume
  /-- STOP: code 04h completes at CMD (R143). -/
  | stop
  /-- ABORT_CURRENT: code 05h completes at CMD (R82). -/
  | abortCurrent
  /-- POST: code 10h completes at CMD; ARG0 kind, ARG1 channel or group, ARG2 tag (R23). -/
  | post
  /-- SOFT_TRIGGER: code 11h completes at CMD; ARG0 the input (R51). -/
  | softTrigger
  /-- CALIBRATE: code 12h completes at CMD; ARG0 the mask (R28). -/
  | calibrate
  /-- TABLE_READ: code 20h completes at CMD; ARG0 table, ARG1 index (R170). -/
  | tableRead
  /-- TABLE_WRITE: code 21h completes at CMD; ARG0 table, ARG1 index (R171). -/
  | tableWrite
  /-- SWAP_BANKS: code 22h completes at CMD (R67). -/
  | swapBanks
  /-- RING_RELEASE: code 30h completes at CMD; ARG0 and ARG1 the sequence number (R117). -/
  | ringRelease
  /-- RING_CLEAR: code 31h completes at CMD (R121). -/
  | ringClear
  /-- RING_CONFIG: code 32h completes at CMD; ARG0 policy, ARG1 watermark (R122). -/
  | ringConfig
  /-- SET_REFERENCE: code 40h completes at CMD; ARG0 channel, ARG1 presence, ARG2 and ARG3 value (R133). -/
  | setReference
  /-- SET_TICK: code 41h completes at CMD; ARG0 the selection (R37). -/
  | setTick
  /-- DEVICE_RESET: code 5Ah completes at CMD (R145). -/
  | deviceReset
  /-- A byte that is no command's code completes at CMD (R167). -/
  | unknownCommandCode (code : Byte)
  /-- A byte completes at 18h or 19h, ALERT_FLAGS (R149). -/
  | clearLatchedFlag (value : Byte)
  /-- A byte with a one at REF_FAULT's position completes at 19h (R92, R151). -/
  | refFaultClear (value : Byte)
  /-- A byte completes at 1Ah or 1Bh, ALERT_ENABLE (R154). -/
  | alertEnableWrite (value : Byte)
  /-- A byte completes at 1Ch, ALERT_MASTER (R155). -/
  | alertMasterWrite (value : Byte)
  /-- A byte completes at 1Eh or 1Fh, DEVIATION_SET (R128). -/
  | deviationSetClearRequest (value : Byte)
  /-- A data byte of a write completes at an address without a row of its own (R163). -/
  | registerWrite (value : Byte)
  /-- The address byte of a read transaction completes, and the snapshot is taken (R164). -/
  | readSnapshot (address : Byte)
  /-- CSN rises at the end of a read with the acknowledge modifier; the bits of a partial byte are discarded (R131). -/
  | acknowledgingRead (partialBits : Fin 8)
  /-- RSTN goes low (R146). -/
  | rstnLow
  /-- RSTN rises (R137). -/
  | rstnRise
  /-- The supply falls below its POR threshold (R146). -/
  | por
  /-- The supply is established: the end of POR (R137). -/
  | supplyEstablished
  /-- The start-up interval expires (R138). -/
  | endOfStarting
  /-- One tick of the timebase (R35, R41, R50). -/
  | tick
  /-- The expiry of an armed channel whose countdown a tick has brought to 0 (R41, R42). -/
  | cadenceExpiry (channel : Fin 16)
  /-- The end of the holdoff of an input whose count a tick has brought to 0 (R50). -/
  | holdoffEnd (input : Fin 2)
  /-- TRIG0 or TRIG1 changes to the level given (R48, R49). -/
  | triggerEdge (input : Fin 2) (level : Bool)
  /-- REFP minus REFN leaves its window (R90). -/
  | referenceOnset
  /-- REFP minus REFN returns inside its window (R91). -/
  | referenceRecovery
  /-- The settling time of the member ends (R77). -/
  | endOfSettling
  /-- The conversion of the member ends with this raw code (R78). -/
  | conversionCompletion (raw : Word16)
  /-- CALIBRATING ends with this raw code (R99). -/
  | calibrationCompletion (raw : Word16)
  /-- The recovery ends (R81). -/
  | endOfRecovery
  /-- CSN falls while SCLK is at the level given (R160). -/
  | csnFall (sclkHigh : Bool)
  /-- The header byte of a transaction completes (R161). -/
  | headerByte (value : Byte)
  /-- The address byte of a write transaction completes (R162). -/
  | writeAddressByte (address : Byte)
  /-- A data byte of a read is clocked out completely (R165). -/
  | readDataByte
  /-- CSN rises at the end of any other transaction; the bits of a partial byte are discarded (R160). -/
  | csnRise (partialBits : Fin 8)
  deriving DecidableEq, Repr

end Sys2Proof
end

