-- ==== Sys2Proof/WellFormed.lean ====
section
/-! DEFINITION. Which terms of `Instr` name a row of the table: the two operands that a type does not already bound. -/

namespace Sys2Proof

/-- The seventeen command codes (Register and Record Layouts, command codes and arguments). -/
def commandCodes : List Byte :=
  [0x01, 0x02, 0x03, 0x04, 0x05, 0x10, 0x11, 0x12, 0x20, 0x21, 0x22, 0x30, 0x31, 0x32, 0x40, 0x41, 0x5A]

/-- An unknown code is none of the seventeen (R167); a REF_FAULT clear request carries a one at bit 0 (R151). -/
def Instr.wellFormed : Instr → Bool
  | .unknownCommandCode code => !commandCodes.contains code
  | .refFaultClear value => value.getLsbD 0
  | _ => true

end Sys2Proof
end

