-- ==== Sys2Proof/Decode.lean ====
section
/-! DEFINITION. The row that a data byte of a write transaction is, from its address and value, and back.
No row of spec/opcode_table.json gives bits, so the word decoder answers none. -/

namespace Sys2Proof

/-- The command whose code a byte at CMD is (command codes and arguments; R167). -/
def commandOfCode (v : Byte) : Instr :=
  if v = 0x01 then .start
  else if v = 0x02 then .pause
  else if v = 0x03 then .resume
  else if v = 0x04 then .stop
  else if v = 0x05 then .abortCurrent
  else if v = 0x10 then .post
  else if v = 0x11 then .softTrigger
  else if v = 0x12 then .calibrate
  else if v = 0x20 then .tableRead
  else if v = 0x21 then .tableWrite
  else if v = 0x22 then .swapBanks
  else if v = 0x30 then .ringRelease
  else if v = 0x31 then .ringClear
  else if v = 0x32 then .ringConfig
  else if v = 0x40 then .setReference
  else if v = 0x41 then .setTick
  else if v = 0x5A then .deviceReset
  else .unknownCommandCode v

/-- The row that a completed data byte `v` of a write transaction is, when the pointer holds `address` (R163). -/
def rowOfDataByte (address v : Byte) : Instr :=
  if address = 0x14 then commandOfCode v
  else if address = 0x19 ∧ v.getLsbD 0 then .refFaultClear v
  else if address = 0x18 ∨ address = 0x19 then .clearLatchedFlag v
  else if address = 0x1A ∨ address = 0x1B then .alertEnableWrite v
  else if address = 0x1C then .alertMasterWrite v
  else if address = 0x1E ∨ address = 0x1F then .deviationSetClearRequest v
  else .registerWrite v

/-- The value of the data byte that a row of a write transaction is; none for the other rows. -/
def Instr.dataByte : Instr → Option Byte
  | .start => some 0x01
  | .pause => some 0x02
  | .resume => some 0x03
  | .stop => some 0x04
  | .abortCurrent => some 0x05
  | .post => some 0x10
  | .softTrigger => some 0x11
  | .calibrate => some 0x12
  | .tableRead => some 0x20
  | .tableWrite => some 0x21
  | .swapBanks => some 0x22
  | .ringRelease => some 0x30
  | .ringClear => some 0x31
  | .ringConfig => some 0x32
  | .setReference => some 0x40
  | .setTick => some 0x41
  | .deviceReset => some 0x5A
  | .unknownCommandCode v => some v
  | .clearLatchedFlag v => some v
  | .refFaultClear v => some v
  | .alertEnableWrite v => some v
  | .alertMasterWrite v => some v
  | .deviationSetClearRequest v => some v
  | .registerWrite v => some v
  | _ => none

/-- The row a table word spells: no row of the table gives bits, so no word spells one. -/
def decodeTableWord (_nbits _w : Nat) : Option Instr := none

end Sys2Proof
end

