-- ==== Sys2Proof/Machine/Bits.lean ====
section
/-! DEFINITION. Byte order and bit places: a multi-byte quantity stands least significant byte first, at the lower
address (Conventions). -/

namespace Sys2Proof.Machine

/-- The byte of `w` at the lower address. -/
def lowByte (w : Word16) : Byte := w.extractLsb' 0 8

/-- The byte of `w` at the higher address. -/
def highByte (w : Word16) : Byte := w.extractLsb' 8 8

/-- The sixteen-bit quantity whose bytes, from the lower address on, are `lo` and `hi`. -/
def word16 (lo hi : Byte) : Word16 := hi ++ lo

/-- The byte at offset `k` of a 32-bit quantity, offset 0 at the lowest address. -/
def wordByte (w : Word32) (k : Nat) : Byte := w.extractLsb' (8 * k) 8

/-- The byte with these bits, bit 0 first. -/
def bitsByte (b0 b1 b2 b3 b4 b5 b6 b7 : Bool) : Byte :=
  BitVec.ofNat 8 (b0.toNat + 2 * b1.toNat + 4 * b2.toNat + 8 * b3.toNat + 16 * b4.toNat + 32 * b5.toNat
    + 64 * b6.toNat + 128 * b7.toNat)

/-- A byte as a number below `n`, when it is one. -/
def byteFin (n : Nat) (b : Byte) : Option (Fin n) :=
  if h : b.toNat < n then some ⟨b.toNat, h⟩ else none

end Sys2Proof.Machine
end

