-- ==== Sys2Proof/Config.lean ====
section
/-! DEFINITION. The numbers the manual fixes for every NK4216: capacities, limits, durations and identity bytes.
The manual leaves no value open, so no constant here is opaque. -/

namespace Sys2Proof.Config

/-- DEVICE_ID at 00h reads A7h (window map, R166). -/
def deviceId : Byte := 0xA7

/-- REVISION at 01h reads 01h (window map, R166). -/
def revision : Byte := 0x01

/-- The IMMEDIATE queue holds at most 8 requests (R19, R23). -/
def immediateCapacity : Nat := 8

/-- The result ring holds at most 64 entries (R110). -/
def ringCapacity : Nat := 64

/-- Midscale of a raw code (R2). -/
def midscale : Int := 32768

/-- An offset constant lies between minus this and this (R97). -/
def offsetLimit : Int := 2048

/-- The ideal span of a gain calibration (R98). -/
def idealSpan : Nat := 24576

/-- The gain constant that stands for 1.0 (R94). -/
def unityGain : Nat := 32768

/-- The least accepted gain constant (R98). -/
def gainLow : Nat := 29491

/-- The greatest accepted gain constant (R98). -/
def gainHigh : Nat := 36045

/-- The greatest deviation band (R5). -/
def bandLimit : Nat := 32767

/-- The start-up interval in µs (R137). -/
def startupMicros : Nat := 500

/-- A conversion in units of 0.5 µs: 3 µs (R77). -/
def conversionHalfMicros : Nat := 6

/-- A recovery in units of 0.5 µs: 1 µs (R81). -/
def recoveryHalfMicros : Nat := 2

/-- An OFFSET calibration in units of 0.5 µs: 48 µs (R79). -/
def offsetCalHalfMicros : Nat := 96

/-- A GAIN calibration in units of 0.5 µs: 96 µs (R79). -/
def gainCalHalfMicros : Nat := 192

end Sys2Proof.Config
end

