-- ==== Sys2Proof/Machine/State.lean ====
section
/-! DEFINITION. The state of the NK4216: every table, record, queue, counter, mode, flag and pin the manual gives it,
as plain data, and the state right after reset. -/

namespace Sys2Proof.Machine

/-! ### Names the manual fixes -/

/-- The four service classes (R17). -/
inductive ServiceClass where
  | immediate | triggered | cadence | maintenance
  deriving DecidableEq, Repr

/-- The scheduler states (R136). -/
inductive Scheduler where
  | starting | stopped | running | pausing | paused
  deriving DecidableEq, Repr

/-- The converter states (R74). -/
inductive Converter where
  | idle | settling | converting | calibrating | recovering | halted
  deriving DecidableEq, Repr

/-- The result codes (R168). -/
inductive ResultCode where
  | ok | badState | badArg | full | noPhase | refused | idle | holdoff | stale | empty | inUse | disabled | notReady
  deriving DecidableEq, Repr

/-- The detail codes (R168). -/
inductive DetailCode where
  | none | enableCode | posInput | negInput | sameInput | gain | settling | offset | band | memberCount | memberChannel
  | duplicate | edgeCode | triggerGroup | groupUndefined | length | slotCode | noClass | strandedImmediate
  | strandedTriggered | strandedCadence | strandedMaintenance | triggerBound | requestHeld
  deriving DecidableEq, Repr

/-- The ten latched flags; RING_LEVEL and DEVIATION follow a condition and are computed (R149, R150). -/
inductive Flag where
  | ringLoss | immDone | cadOverrun | trgOverrun | calDone | calFail | refFault | aborted | cmdError | runChange
  deriving DecidableEq, Repr

/-! ### Channels, groups, triggers -/

/-- A negative input: a pin, or COMMON, which is REFN (R2). -/
inductive NegInput where
  | ain (pin : Fin 16)
  | common
  deriving DecidableEq, Repr

/-- A channel record (R1). -/
structure ChannelRecord where
  enabled : Bool
  positive : Fin 16
  negative : NegInput
  gain : Fin 4
  settling : Byte
  period : Word16
  offset : Word16
  band : Word16
  deriving DecidableEq, Repr

/-- The edge selection of a trigger record (R45). -/
inductive EdgeSelect where
  | off | rising | falling | both
  deriving DecidableEq, Repr

/-- A trigger record (R45). -/
structure TriggerRecord where
  edge : EdgeSelect
  group : Fin 4
  holdoff : Word16
  deriving DecidableEq, Repr

/-- What the Trigger Unit holds for one input: its record, its holdoff count and the last level seen (R45, R48). -/
structure TriggerInput where
  record : TriggerRecord
  count : Word16
  lastLevel : Bool
  deriving DecidableEq, Repr

/-- What the Cadence Unit holds for one channel (R39). -/
structure Cadence where
  armed : Bool
  countdown : Word16
  deriving DecidableEq, Repr

/-! ### Requests and queues -/

/-- Which constant a calibration measures (R97, R98). -/
inductive CalKind where
  | offset | gain
  deriving DecidableEq, Repr

/-- One of the eight calibration targets (R17). -/
structure CalTarget where
  kind : CalKind
  gain : Fin 4
  deriving DecidableEq, Repr

/-- The target of an IMMEDIATE request (R17). -/
inductive ImmTarget where
  | channel (channel : Fin 16)
  | group (group : Fin 4)
  deriving DecidableEq, Repr

/-- An IMMEDIATE request: a target and the host's tag (R17). -/
structure ImmRequest where
  target : ImmTarget
  tag : Byte
  deriving DecidableEq, Repr

/-- A request of a class that merges repeats: a target and its coalesced count, 0 to 15 (R17, R25). -/
structure Merged (α : Type) where
  target : α
  count : BitVec 4
  deriving DecidableEq, Repr

/-- The four queues, each from its head (oldest) to its tail (R19). -/
structure Queues where
  immediate : List ImmRequest
  triggered : List (Merged (Fin 4))
  cadence : List (Merged (Fin 16))
  maintenance : List (Merged CalTarget)
  deriving DecidableEq, Repr

/-- A request as the sequencer holds it (R30, R75). -/
inductive Request where
  | immediate (request : ImmRequest)
  | triggered (request : Merged (Fin 4))
  | cadence (request : Merged (Fin 16))
  | maintenance (request : Merged CalTarget)
  deriving DecidableEq, Repr

/-! ### Arbiter -/

/-- The code of one phase slot (R54). -/
inductive Slot where
  | skip
  | serve (served : ServiceClass)
  deriving DecidableEq, Repr

/-- A phase bank: its length and its thirty-two slots (R54). -/
structure PhaseBank where
  length : Nat
  slots : Vector Slot 32
  deriving DecidableEq, Repr

/-- The two banks' names (R55). -/
inductive BankName where
  | a | b
  deriving DecidableEq, Repr

/-- What the Arbiter holds (R54, R55). -/
structure Arbiter where
  bankA : PhaseBank
  bankB : PhaseBank
  active : BankName
  pointer : Nat
  deriving DecidableEq, Repr

/-! ### Sequencer and Calibration Unit -/

/-- The channel settings of the member in flight (R77). -/
structure MemberSnapshot where
  positive : Fin 16
  negative : NegInput
  gain : Fin 4
  settling : Byte
  deriving DecidableEq, Repr

/-- What the Conversion Sequencer holds (R73), and the sampling instant it hands over at a completion (R77, R78). -/
structure Sequencer where
  converter : Converter
  current : Option Request
  captured : Option (List (Fin 16))
  position : Nat
  snapshot : Option MemberSnapshot
  haltPending : Bool
  sampledAt : Word32
  deriving DecidableEq, Repr

/-- The validity of a calibration record (R95). -/
inductive Validity where
  | nominal | calibrated | failed
  deriving DecidableEq, Repr

/-- A calibration record (R94); the offset constant is signed, the gain constant unsigned. -/
structure CalRecord where
  validity : Validity
  offset : Word16
  gain : Word16
  calibratedAt : Option Word32
  deriving DecidableEq, Repr

/-! ### Result ring -/

/-- The class of an entry's request, with the tag or the coalesced count that class carries (R108, R109). -/
inductive Origin where
  | immediate (tag : Byte)
  | triggered (count : BitVec 4)
  | cadence (count : BitVec 4)
  | maintenance (count : BitVec 4)
  deriving DecidableEq, Repr

/-- The target of an entry (R108). -/
inductive EntryTarget where
  | channel (channel : Fin 16)
  | calibration (target : CalTarget)
  deriving DecidableEq, Repr

/-- The group and member position of an entry whose request names a group (R108). -/
structure Place where
  group : Fin 4
  position : Nat
  deriving DecidableEq, Repr

/-- The sample flags of a SAMPLE (R108). -/
structure SampleFlags where
  clip : Bool
  uncal : Bool
  dev : Bool
  deriving DecidableEq, Repr

/-- The reasons of an ABORTED entry (R108). -/
inductive AbortReason where
  | host | disabled | reference | stop
  deriving DecidableEq, Repr

/-- The kind of an entry with the fields only that kind carries (R108, R109). -/
inductive EntryKind where
  | sample (value : Word16) (flags : SampleFlags)
  | aborted (reason : AbortReason)
  | calibrationDone (value : Word16)
  | calibrationFail
  deriving DecidableEq, Repr

/-- What a producer hands to the ring: every field but the sequence number and loss-before (R108). -/
structure Draft where
  origin : Origin
  target : EntryTarget
  place : Option Place
  timestamp : Word32
  kind : EntryKind
  deriving DecidableEq, Repr

/-- An entry held by the ring (R108, R110, R111). -/
structure Entry where
  seq : Word16
  lossBefore : Option Byte
  draft : Draft
  deriving DecidableEq, Repr

/-- What a full ring does with a new entry (R112). -/
inductive Policy where
  | hold | overwrite
  deriving DecidableEq, Repr

/-- What the Result Ring holds, entries from head to tail; the level is their number (R107). -/
structure Ring where
  entries : List Entry
  nextSeq : Word16
  lossCount : Word16
  pendingLoss : Byte
  policy : Policy
  watermark : Nat
  deriving DecidableEq, Repr

/-! ### Monitor, alerts, host port, pins -/

/-- A latest value with the sampling instant of its SAMPLE; the two are present together (R124). -/
structure Latest where
  value : Word16
  timestamp : Word32
  deriving DecidableEq, Repr

/-- A monitor record (R124). -/
structure MonitorRecord where
  latest : Option Latest
  reference : Option Word16
  inSet : Bool
  deriving DecidableEq, Repr

/-- The ten latched flags (R148, R149). -/
structure Latched where
  ringLoss : Bool
  immDone : Bool
  cadOverrun : Bool
  trgOverrun : Bool
  calDone : Bool
  calFail : Bool
  refFault : Bool
  aborted : Bool
  cmdError : Bool
  runChange : Bool
  deriving DecidableEq, Repr

/-- What the Alert Unit holds: the latched flags, the twelve enables as 1Ah and 1Bh store them, the master enable
(R148, R154, R155). -/
structure Alerts where
  flags : Latched
  enableLow : Byte
  enableHigh : BitVec 4
  master : Bool
  deriving DecidableEq, Repr

/-- Where the transaction stands (R159). -/
inductive PortPhase where
  | waiting | header | address | data | ignored
  deriving DecidableEq, Repr

/-- The direction of a transaction (R161). -/
inductive Direction where
  | read | write
  deriving DecidableEq, Repr

/-- The SPI clock mode, taken when CSN falls (R160). -/
inductive SpiMode where
  | mode0 | mode3
  deriving DecidableEq, Repr

/-- A read snapshot: the 256 addresses, and which channels' latest values stood in it, since 8000h does not tell an
absent value from −32768 (R130, R131, R164): DEDUCED (log 12). -/
structure ReadSnapshot where
  window : Vector Byte 256
  latest : Vector (Option Word16) 16
  deriving DecidableEq, Repr

/-- The transaction items of the Host Port (R159). `bits` holds the bits of the byte under way, in the order of their
sampling edges, fewer than eight (R160). `clocked` marks the bytes of 80h to 9Fh clocked out in a read with
the modifier; the acknowledged set is computed from it (R165). -/
structure Port where
  csnLow : Bool
  mode : SpiMode
  phase : PortPhase
  direction : Direction
  acknowledge : Bool
  pointer : Byte
  bits : List Bool
  snapshot : Option ReadSnapshot
  clocked : Vector Bool 32
  deriving DecidableEq, Repr

/-- The command block and the staging buffer of the Host Port (R159). -/
structure CommandBlock where
  args : Vector Byte 4
  result : ResultCode
  detail : DetailCode
  echo : Byte
  staging : Vector Byte 40
  deriving DecidableEq, Repr

/-- The levels outside: RSTN low, supply below its POR threshold, REFP minus REFN outside its window, TRIG0 and TRIG1
high. A reset does not change them. -/
structure Pins where
  rstnLow : Bool
  supplyDown : Bool
  refOutside : Bool
  trig : Vector Bool 2
  deriving DecidableEq, Repr

/-- The whole state of the part, and the operations and events still to come, first in first out. -/
structure State where
  channels : Vector ChannelRecord 16
  groups : Vector (List (Fin 16)) 4
  timebase : Word32
  tickSel : BitVec 2
  intervalSel : BitVec 2
  cadence : Vector Cadence 16
  triggers : Vector TriggerInput 2
  queues : Queues
  arbiter : Arbiter
  seq : Sequencer
  refCondition : Bool
  calibration : Vector CalRecord 4
  ring : Ring
  monitors : Vector MonitorRecord 16
  scheduler : Scheduler
  alerts : Alerts
  port : Port
  command : CommandBlock
  pins : Pins
  pending : List Instr
  deriving DecidableEq, Repr

/-- The reasons the machine stops with a fault: none, since the manual names no condition that stops the part. -/
inductive Fault where
  deriving DecidableEq, Repr

/-- The reasons for a refusal. -/
inductive Refusal where
  /-- Raised by an arm of `exec` whose operation has no meaning yet, under its mnemonic; safe. No arm raises it. -/
  | notModelled (mnemonic : String)
  deriving DecidableEq, Repr

/-! ### Reset values -/

/-- The reset record of channel `n` (R1). -/
def ChannelRecord.reset (n : Fin 16) : ChannelRecord :=
  { enabled := false, positive := n, negative := .common, gain := 0, settling := 4, period := 0, offset := 0, band := 0 }

/-- The reset state of a trigger input whose pin is at `level` (R45, R48). -/
def TriggerInput.reset (level : Bool) : TriggerInput :=
  { record := { edge := .off, group := 0, holdoff := 0 }, count := 0, lastLevel := level }

/-- The reset bank: length 8, slots C, I, C, T, C, I, C, M, then SKIP (R54). -/
def PhaseBank.reset : PhaseBank :=
  { length := 8
    slots :=
      (#v[.serve .cadence, .serve .immediate, .serve .cadence, .serve .triggered, .serve .cadence, .serve .immediate,
        .serve .cadence, .serve .maintenance] : Vector Slot 8) ++ (Vector.replicate 24 .skip : Vector Slot 24) }

/-- The record of a gain after POR (R94). -/
def CalRecord.nominal : CalRecord :=
  { validity := .nominal, offset := 0, gain := 32768, calibratedAt := none }

/-- The ring after a reset (R107). -/
def Ring.reset : Ring :=
  { entries := [], nextSeq := 0, lossCount := 0, pendingLoss := 0, policy := .hold, watermark := 1 }

/-- The alert unit after a reset (R148). -/
def Alerts.reset : Alerts :=
  { flags := ⟨false, false, false, false, false, false, false, false, false, false⟩
    enableLow := 0, enableHigh := 0, master := false }

/-- The sequencer after a reset (R73). DESIGN CHOICE: the sampling instant, which the manual gives no reset value and
which nothing reads before END_OF_SETTLING writes it, is 0 (log 2). -/
def Sequencer.reset : Sequencer :=
  { converter := .idle, current := none, captured := none, position := 0, snapshot := none, haltPending := false
    sampledAt := 0 }

/-- The command block after a reset (R159). -/
def CommandBlock.reset : CommandBlock :=
  { args := Vector.replicate 4 0, result := .ok, detail := .none, echo := 0, staging := Vector.replicate 40 0 }

/-- The port with no transaction (R159). DESIGN CHOICE: the items the manual gives no reset value, the mode, the
direction, the pointer and the CSN level, start at mode 0, write, 00h and high (log 2). -/
def Port.reset : Port :=
  { csnLow := false, mode := .mode0, phase := .waiting, direction := .write, acknowledge := false, pointer := 0
    bits := [], snapshot := none, clocked := Vector.replicate 32 false }

/-- The levels outside at the start. DESIGN CHOICE: RSTN high, supply established, reference inside its window, both
trigger inputs low (log 3). -/
def Pins.reset : Pins :=
  { rstnLow := false, supplyDown := false, refOutside := false, trig := #v[false, false] }

/-- The part right after POR, at the start of the start-up interval: every block at the reset values of its chapter
(R1, R13, R19, R35, R36, R39, R45, R54, R55, R73, R89, R94, R107, R124, R136, R148, R159). -/
def State.reset : State :=
  { channels := #v[.reset 0, .reset 1, .reset 2, .reset 3, .reset 4, .reset 5, .reset 6, .reset 7,
      .reset 8, .reset 9, .reset 10, .reset 11, .reset 12, .reset 13, .reset 14, .reset 15]
    groups := Vector.replicate 4 []
    timebase := 0
    tickSel := 1
    intervalSel := 1
    cadence := Vector.replicate 16 { armed := false, countdown := 0 }
    triggers := #v[.reset false, .reset false]
    queues := { immediate := [], triggered := [], cadence := [], maintenance := [] }
    arbiter := { bankA := .reset, bankB := .reset, active := .a, pointer := 0 }
    seq := .reset
    refCondition := false
    calibration := Vector.replicate 4 .nominal
    ring := .reset
    monitors := Vector.replicate 16 { latest := none, reference := none, inSet := false }
    scheduler := .starting
    alerts := .reset
    port := .reset
    command := .reset
    pins := .reset
    pending := [] }

end Sys2Proof.Machine
end

