-- ==== Sys2Proof/Machine/Flags.lean ====
section
/-! DEFINITION. The Alert Unit: raising and clearing latched flags, the two flags that follow a condition, the flag
and enable bytes, and the ALERTN output (R148 to R158). -/

namespace Sys2Proof.Machine

/-- The latched flags with flag `f` set (R149). -/
def Latched.set (f : Flag) (l : Latched) : Latched :=
  match f with
  | .ringLoss => { l with ringLoss := true }
  | .immDone => { l with immDone := true }
  | .cadOverrun => { l with cadOverrun := true }
  | .trgOverrun => { l with trgOverrun := true }
  | .calDone => { l with calDone := true }
  | .calFail => { l with calFail := true }
  | .refFault => { l with refFault := true }
  | .aborted => { l with aborted := true }
  | .cmdError => { l with cmdError := true }
  | .runChange => { l with runChange := true }

/-- The state with latched flag `f` set, whatever its enable holds (R149). -/
def State.raise (f : Flag) (s : State) : State :=
  { s with alerts := { s.alerts with flags := s.alerts.flags.set f } }

/-- RING_LEVEL: the level is at or above the watermark (R120). -/
def State.ringLevelFlag (s : State) : Bool := decide (s.ring.watermark ≤ s.ring.entries.length)

/-- DEVIATION: the deviation set is not empty (R127). DESIGN CHOICE: computed, as RING_LEVEL and ALERTN are (log 14). -/
def State.deviationFlag (s : State) : Bool := s.monitors.toList.any (·.inSet)

/-- ALERT_FLAGS at 18h: CAL_FAIL, CAL_DONE, TRG_OVERRUN, CAD_OVERRUN, IMM_DONE, DEVIATION, RING_LOSS, RING_LEVEL from
bit 7 to bit 0 (alert registers). -/
def State.flagsLow (s : State) : Byte :=
  let f := s.alerts.flags
  bitsByte s.ringLevelFlag f.ringLoss s.deviationFlag f.immDone f.cadOverrun f.trgOverrun f.calDone f.calFail

/-- ALERT_FLAGS at 19h: RUN_CHANGE, CMD_ERROR, ABORTED, REF_FAULT from bit 3 to bit 0 (alert registers). -/
def State.flagsHigh (s : State) : Byte :=
  let f := s.alerts.flags
  bitsByte f.refFault f.aborted f.cmdError f.runChange false false false false

/-- The ones of a byte at 18h clear the latched flags at their positions; RING_LEVEL and DEVIATION have none to clear
(R149, R150). -/
def Latched.clearLow (v : Byte) (l : Latched) : Latched :=
  { l with
    ringLoss := l.ringLoss && !v.getLsbD 1
    immDone := l.immDone && !v.getLsbD 3
    cadOverrun := l.cadOverrun && !v.getLsbD 4
    trgOverrun := l.trgOverrun && !v.getLsbD 5
    calDone := l.calDone && !v.getLsbD 6
    calFail := l.calFail && !v.getLsbD 7 }

/-- The ones of a byte at 19h clear ABORTED, CMD_ERROR and RUN_CHANGE; REF_FAULT's is a request decided apart
(R149, R151). -/
def Latched.clearHigh (v : Byte) (l : Latched) : Latched :=
  { l with
    aborted := l.aborted && !v.getLsbD 1
    cmdError := l.cmdError && !v.getLsbD 2
    runChange := l.runChange && !v.getLsbD 3 }

/-- ALERTN is asserted (driven low) exactly while the master enable is on and a flag whose enable is on is set; it is
released while RSTN is low or the supply is below its threshold (R146, R156). -/
def State.alertnAsserted (s : State) : Bool :=
  s.alerts.master && ((s.flagsLow &&& s.alerts.enableLow) != 0
    || (s.flagsHigh &&& s.alerts.enableHigh.zeroExtend 8) != 0)
  && !s.pins.rstnLow && !s.pins.supplyDown

end Sys2Proof.Machine
end

