-- ==== Sys2Proof/Machine/Operands.lean ====
section
/-! DEFINITION. Codes and record layouts: the argument codes of the commands, the numeric values of states, results and
details, and the staging-buffer layout of each table record (Register and Record Layouts; R174, R175). -/

namespace Sys2Proof.Machine

/-! ### Codes read back through the window -/

/-- RUN_STATUS bits 2–0. -/
def Scheduler.code : Scheduler → Nat
  | .starting => 0 | .stopped => 1 | .running => 2 | .pausing => 3 | .paused => 4

/-- RUN_STATUS bits 6–4. -/
def Converter.code : Converter → Nat
  | .idle => 0 | .settling => 1 | .converting => 2 | .calibrating => 3 | .recovering => 4 | .halted => 5

/-- CMD_RESULT code at 15h. -/
def ResultCode.code : ResultCode → Byte
  | .ok => 0x00 | .badState => 0x01 | .badArg => 0x02 | .full => 0x03 | .noPhase => 0x04 | .refused => 0x05
  | .idle => 0x06 | .holdoff => 0x07 | .stale => 0x08 | .empty => 0x09 | .inUse => 0x0A | .disabled => 0x0B
  | .notReady => 0x0C

/-- CMD_RESULT detail at 16h. -/
def DetailCode.code : DetailCode → Byte
  | .none => 0x00 | .enableCode => 0x01 | .posInput => 0x02 | .negInput => 0x03 | .sameInput => 0x04 | .gain => 0x05
  | .settling => 0x06 | .offset => 0x07 | .band => 0x08 | .memberCount => 0x10 | .memberChannel => 0x11
  | .duplicate => 0x12 | .edgeCode => 0x18 | .triggerGroup => 0x19 | .groupUndefined => 0x1A | .length => 0x20
  | .slotCode => 0x21 | .noClass => 0x22 | .strandedImmediate => 0x24 | .strandedTriggered => 0x25
  | .strandedCadence => 0x26 | .strandedMaintenance => 0x27 | .triggerBound => 0x30 | .requestHeld => 0x31

/-- Class code of an entry header. -/
def Origin.classCode : Origin → Nat
  | .immediate _ => 0 | .triggered _ => 1 | .cadence _ => 2 | .maintenance _ => 3

/-- Kind code of an entry header. -/
def EntryKind.code : EntryKind → Nat
  | .sample _ _ => 0 | .aborted _ => 1 | .calibrationDone _ => 2 | .calibrationFail => 2

/-- Reason code of an ABORTED entry. -/
def AbortReason.code : AbortReason → Byte
  | .host => 0x01 | .disabled => 0x02 | .reference => 0x03 | .stop => 0x04

/-- POLICY at 22h and the policy argument of RING_CONFIG. -/
def Policy.code : Policy → Byte
  | .hold => 0x00 | .overwrite => 0x01

/-- The policy a code names (R122). -/
def policyOf (b : Byte) : Option Policy :=
  if b = 0x00 then some .hold else if b = 0x01 then some .overwrite else none

/-! ### Tables -/

/-- The six tables (R169). -/
inductive TableName where
  | channel | group | trigger | phase | calibration | monitor
  deriving DecidableEq, Repr

/-- The table a table argument names (command codes and arguments). -/
def tableOf (b : Byte) : Option TableName :=
  if b = 0x01 then some .channel
  else if b = 0x02 then some .group
  else if b = 0x03 then some .trigger
  else if b = 0x04 then some .phase
  else if b = 0x05 then some .calibration
  else if b = 0x06 then some .monitor
  else none

/-- A record that a table and an index name; PHASE record 0 is the standby bank, record 1 the active bank (R60,
R169). -/
inductive RecordName where
  | channel (index : Fin 16)
  | group (index : Fin 4)
  | trigger (index : Fin 2)
  | standbyBank
  | activeBank
  | calibration (index : Fin 4)
  | monitor (index : Fin 16)
  deriving DecidableEq, Repr

/-- Checks 2 and 3 of R169 on the table and index arguments. -/
def recordOf (table index : Byte) : Option RecordName :=
  match tableOf table with
  | some .channel => (byteFin 16 index).map .channel
  | some .group => (byteFin 4 index).map .group
  | some .trigger => (byteFin 2 index).map .trigger
  | some .phase => if index = 0x00 then some .standbyBank else if index = 0x01 then some .activeBank else none
  | some .calibration => (byteFin 4 index).map .calibration
  | some .monitor => (byteFin 16 index).map .monitor
  | none => none

/-- The target of POST from its kind and number arguments (check 2 of R23). -/
def postTarget (kind number : Byte) : Option ImmTarget :=
  if kind = 0x00 then (byteFin 16 number).map .channel
  else if kind = 0x01 then (byteFin 4 number).map .group
  else none

/-- The calibration target of mask bit `i`: bits 0 to 3 OFFSET, bits 4 to 7 GAIN, at gain index `i` modulo 4 (R28). -/
def calTargetOfBit (i : Fin 8) : CalTarget :=
  { kind := if i.val < 4 then .offset else .gain, gain := ⟨i.val % 4, Nat.mod_lt _ (by decide)⟩ }

/-- The targets of a CALIBRATE mask, in increasing bit order (R28). -/
def calTargets (mask : Byte) : List CalTarget :=
  ((List.finRange 8).filter fun i => mask.getLsbD i.val).map calTargetOfBit

/-- The bytes of a record laid from offset 0 of the staging buffer, 00h beyond them (R170). -/
def stagingOf (bytes : List Byte) : Vector Byte 40 := Vector.ofFn fun i => bytes.getD i.val 0

/-- Code of a negative input: 00h–0Fh a pin, 10h COMMON. -/
def NegInput.code : NegInput → Byte
  | .ain pin => BitVec.ofNat 8 pin.val
  | .common => 0x10

/-- The negative input a code names. -/
def negInputOf (b : Byte) : Option NegInput :=
  if b = 0x10 then some .common else (byteFin 16 b).map .ain

/-- Code of an edge selection. -/
def EdgeSelect.code : EdgeSelect → Byte
  | .off => 0x00 | .rising => 0x01 | .falling => 0x02 | .both => 0x03

/-- The edge selection a code names. -/
def edgeOf (b : Byte) : Option EdgeSelect :=
  if b = 0x00 then some .off else if b = 0x01 then some .rising
  else if b = 0x02 then some .falling else if b = 0x03 then some .both else none

/-- Code of a phase slot. -/
def Slot.code : Slot → Byte
  | .skip => 0x00 | .serve .immediate => 0x01 | .serve .triggered => 0x02 | .serve .cadence => 0x03
  | .serve .maintenance => 0x04

/-- The phase slot a code names. -/
def slotOf (b : Byte) : Option Slot :=
  if b = 0x00 then some .skip else if b = 0x01 then some (.serve .immediate)
  else if b = 0x02 then some (.serve .triggered) else if b = 0x03 then some (.serve .cadence)
  else if b = 0x04 then some (.serve .maintenance) else none

/-- Code of a calibration record's validity. -/
def Validity.code : Validity → Byte
  | .nominal => 0x00 | .calibrated => 0x01 | .failed => 0x02

/-- The CHANNEL layout. -/
def ChannelRecord.bytes (r : ChannelRecord) : List Byte :=
  [if r.enabled then 0x01 else 0x00, BitVec.ofNat 8 r.positive.val, r.negative.code, BitVec.ofNat 8 r.gain.val,
    r.settling, lowByte r.period, highByte r.period, lowByte r.offset, highByte r.offset, lowByte r.band,
    highByte r.band]

/-- The GROUP layout: the count, then the members in list order, 00h at and beyond the count (R16). -/
def groupBytes (members : List (Fin 16)) : List Byte :=
  BitVec.ofNat 8 members.length :: members.map fun c => BitVec.ofNat 8 c.val

/-- The TRIGGER layout. -/
def TriggerRecord.bytes (r : TriggerRecord) : List Byte :=
  [r.edge.code, BitVec.ofNat 8 r.group.val, lowByte r.holdoff, highByte r.holdoff]

/-- The PHASE layout: the length, then all thirty-two slots (R60). -/
def PhaseBank.bytes (b : PhaseBank) : List Byte :=
  BitVec.ofNat 8 b.length :: b.slots.toList.map Slot.code

/-- The CALIBRATION layout; an absent time reads 00h (R105). -/
def CalRecord.bytes (r : CalRecord) : List Byte :=
  let t := r.calibratedAt.getD 0
  [r.validity.code, if r.calibratedAt.isSome then 0x01 else 0x00, lowByte r.offset, highByte r.offset, lowByte r.gain,
    highByte r.gain, wordByte t 0, wordByte t 1, wordByte t 2, wordByte t 3]

/-- The MONITOR layout; absent fields read 00h (R134). -/
def MonitorRecord.bytes (r : MonitorRecord) : List Byte :=
  let v := (r.latest.map Latest.value).getD 0
  let t := (r.latest.map Latest.timestamp).getD 0
  let f := r.reference.getD 0
  [bitsByte r.latest.isSome r.reference.isSome r.inSet false false false false false, lowByte v, highByte v,
    wordByte t 0, wordByte t 1, wordByte t 2, wordByte t 3, lowByte f, highByte f]

/-! ### Validation of staged records -/

/-- The checks of R5, in its order, on the staged bytes; the first that fails gives its detail. -/
def parseChannel (b : Vector Byte 40) : Except DetailCode ChannelRecord :=
  let period := word16 b[5] b[6]
  let offset := word16 b[7] b[8]
  let band := word16 b[9] b[10]
  if b[0] ≠ 0x00 ∧ b[0] ≠ 0x01 then .error .enableCode
  else match byteFin 16 b[1] with
  | none => .error .posInput
  | some positive =>
    match negInputOf b[2] with
    | none => .error .negInput
    | some negative =>
      if negative = .ain positive then .error .sameInput
      else match byteFin 4 b[3] with
      | none => .error .gain
      | some gain =>
        if b[4] = 0 then .error .settling
        else if period ≠ 0 ∧ ¬ offset.toNat < period.toNat then .error .offset
        else if Config.bandLimit < band.toNat then .error .band
        else .ok { enabled := b[0] = 0x01, positive, negative, gain, settling := b[4], period, offset, band }

/-- Checks 1 to 3 of R14, in their order, on the staged bytes; slots at and beyond the count are not examined. -/
def parseGroup (b : Vector Byte 40) : Except DetailCode (List (Fin 16)) :=
  if 8 < b[0].toNat then .error .memberCount
  else match ((b.toList.drop 1).take b[0].toNat).mapM (byteFin 16) with
  | none => .error .memberChannel
  | some members => if members.Nodup then .ok members else .error .duplicate

/-- Checks 1 and 2 of R46, in their order; check 3 needs the Group Table. -/
def parseTrigger (b : Vector Byte 40) : Except DetailCode TriggerRecord :=
  match edgeOf b[0] with
  | none => .error .edgeCode
  | some edge =>
    match byteFin 4 b[1] with
    | none => .error .triggerGroup
    | some group => .ok { edge, group, holdoff := word16 b[2] b[3] }

/-- A slot with index below the length holds the code of class `c` (R57). -/
def PhaseBank.appears (b : PhaseBank) (c : ServiceClass) : Bool :=
  (b.slots.toList.take b.length).contains (.serve c)

/-- A slot with index below the length holds a class (R58). -/
def PhaseBank.namesClass (b : PhaseBank) : Bool :=
  (b.slots.toList.take b.length).any (· ≠ .skip)

/-- All thirty-two slot bytes from offset 1 decoded, or none when one is above 04h (R175). -/
def parseSlots (b : Vector Byte 40) : Option (Vector Slot 32) :=
  if (b.toList.drop 1).take 32 |>.all (fun v => (slotOf v).isSome) then
    some (Vector.ofFn fun i => (slotOf (b[i.val + 1]'(by omega))).getD .skip)
  else none

/-- The checks of R58, in its order, on the staged bytes. -/
def parsePhase (b : Vector Byte 40) : Except DetailCode PhaseBank :=
  if b[0].toNat = 0 ∨ 32 < b[0].toNat then .error .length
  else match parseSlots b with
  | none => .error .slotCode
  | some slots =>
    if ({ length := b[0].toNat, slots } : PhaseBank).namesClass then .ok { length := b[0].toNat, slots }
    else .error .noClass

end Sys2Proof.Machine
end

