-- ==== Sys2Proof/Machine/Ops.lean ====
section
/-! DEFINITION. The operations the meanings share: writing a ring entry, evaluating a deviation condition, posting,
coalescing, arbitration and grant, a member's turn, the end and the abort of a request, cadence, the resets, and the
answer of a command. -/

namespace Sys2Proof.Machine

/-! ### The Result Ring -/

/-- The ring holds 64 entries (R112). -/
def Ring.full (r : Ring) : Bool := decide (Config.ringCapacity ≤ r.entries.length)

/-- An entry placed at the tail with the next sequence number, carrying the pending loss-before count (R110, R111). -/
def Ring.place (d : Draft) (r : Ring) : Ring :=
  { r with
    entries := r.entries ++
      [{ seq := r.nextSeq, lossBefore := if r.pendingLoss = 0 then none else some r.pendingLoss, draft := d }]
    nextSeq := r.nextSeq + 1
    pendingLoss := 0 }

/-- The loss count raised by 1, saturating at 65535 (R112). -/
def Ring.countLoss (r : Ring) : Ring :=
  { r with lossCount := if r.lossCount = 0xFFFF then r.lossCount else r.lossCount + 1 }

/-- A new entry discarded under HOLD: counted as lost and in the pending loss-before count, which saturates at 255
(R113). -/
def Ring.discard (r : Ring) : Ring :=
  { r.countLoss with pendingLoss := if r.pendingLoss = 0xFF then r.pendingLoss else r.pendingLoss + 1 }

/-- The head dropped under OVERWRITE and counted as lost (R114). -/
def Ring.dropHead (r : Ring) : Ring := { r.countLoss with entries := r.entries.drop 1 }

/-- An entry handed to the ring: placed, discarded, or placed after the head is dropped (R111 to R114). -/
def Ring.hand (d : Draft) (r : Ring) : Ring :=
  if r.full then
    match r.policy with
    | .hold => r.discard
    | .overwrite => r.dropHead.place d
  else r.place d

/-- A producer hands an entry to the ring; RING_LOSS is set at each discard and each drop (R112). -/
def State.produce (d : Draft) (s : State) : State :=
  if s.ring.full then ({ s with ring := s.ring.hand d }).raise .ringLoss else { s with ring := s.ring.hand d }

/-- An ABORTED entry produced: the ABORTED flag is set whether it is written or discarded (R32, R80). -/
def State.produceAborted (d : Draft) (s : State) : State := (s.produce d).raise .aborted

/-! ### The Monitor -/

/-- The difference of two signed codes, without regard to sign, formed exactly (R126). -/
def codeDistance (v f : Word16) : Nat := (v.toInt - f.toInt).natAbs

/-- The deviation condition of channel `c` (R126). -/
def State.deviates (c : Fin 16) (s : State) : Bool :=
  match (s.monitors[c]).latest, (s.monitors[c]).reference with
  | some l, some f => decide ((s.channels[c]).band ≠ 0 ∧ (s.channels[c]).band.toNat < codeDistance l.value f)
  | _, _ => false

/-- An evaluation of channel `c`: it enters the deviation set if its condition holds (R127). -/
def State.evaluate (c : Fin 16) (s : State) : State :=
  if s.deviates c then { s with monitors := s.monitors.set c { s.monitors[c] with inSet := true } } else s

/-- The reference of channel `c` set or made absent, and the condition evaluated (R131, R133). -/
def State.putReference (c : Fin 16) (f : Option Word16) (s : State) : State :=
  ({ s with monitors := s.monitors.set c { s.monitors[c] with reference := f } }).evaluate c

/-! ### Queues -/

/-- A new request of a merging class: its coalesced count is 0 (R18, R25). -/
def Merged.fresh {α : Type} (target : α) : Merged α := { target := target, count := 0 }

/-- A coalesced count raised by 1, saturating at 15 (R25). -/
def bumpCount (n : BitVec 4) : BitVec 4 := if n = 15 then n else n + 1

/-- A request for this target is pending in the queue (R20). -/
def pendingFor {α : Type} [DecidableEq α] (target : α) (q : List (Merged α)) : Bool :=
  q.any fun r => decide (r.target = target)

/-- A repeat merged into the pending request for its target, which keeps its place (R19, R25). -/
def mergeInto {α : Type} [DecidableEq α] (target : α) (q : List (Merged α)) : List (Merged α) :=
  q.map fun r => if r.target = target then { r with count := bumpCount r.count } else r

/-- The queue of class `c` is not empty (R64). -/
def Queues.waiting (q : Queues) : ServiceClass → Bool
  | .immediate => !q.immediate.isEmpty
  | .triggered => !q.triggered.isEmpty
  | .cadence => !q.cadence.isEmpty
  | .maintenance => !q.maintenance.isEmpty

/-- The number of requests pending in all queues. -/
def Queues.total (q : Queues) : Nat :=
  q.immediate.length + q.triggered.length + q.cadence.length + q.maintenance.length

/-- The head of the queue of class `c`, and the queues without it (R30). -/
def Queues.take (q : Queues) : ServiceClass → Option (Request × Queues)
  | .immediate => q.immediate.head?.map fun r => (.immediate r, { q with immediate := q.immediate.tail })
  | .triggered => q.triggered.head?.map fun r => (.triggered r, { q with triggered := q.triggered.tail })
  | .cadence => q.cadence.head?.map fun r => (.cadence r, { q with cadence := q.cadence.tail })
  | .maintenance => q.maintenance.head?.map fun r => (.maintenance r, { q with maintenance := q.maintenance.tail })

/-- All four queues empty (R31, R33). -/
def Queues.none : Queues := { immediate := [], triggered := [], cadence := [], maintenance := [] }

/-- The scheduler accepts postings, keeps cadence armed and counts edges: RUNNING, PAUSING, PAUSED (R21). -/
def Scheduler.accepts : Scheduler → Bool
  | .running | .pausing | .paused => true
  | .starting | .stopped => false

/-! ### Requests -/

/-- The class, tag and coalesced count that every entry of a request carries (R17, R80). -/
def Request.origin : Request → Origin
  | .immediate r => .immediate r.tag
  | .triggered r => .triggered r.count
  | .cadence r => .cadence r.count
  | .maintenance r => .maintenance r.count

/-- The group a request names (R17). -/
def Request.group? : Request → Option (Fin 4)
  | .immediate { target := .group g, .. } => some g
  | .triggered r => some r.target
  | _ => Option.none

/-- The channel a channel request names (R17). -/
def Request.channel? : Request → Option (Fin 16)
  | .immediate { target := .channel c, .. } => some c
  | .cadence r => some r.target
  | _ => Option.none

/-- The class is IMMEDIATE. -/
def Request.isImmediate : Request → Bool
  | .immediate _ => true
  | _ => false

/-- The members of the current request: its channel, or the list it captured; a calibration has none (R75). -/
def Sequencer.members (q : Sequencer) : List (Fin 16) :=
  match q.current with
  | some r =>
    match r.channel? with
    | some c => [c]
    | Option.none => if r.group?.isSome then q.captured.getD [] else []
  | Option.none => []

/-- The converter works a member: SETTLING or CONVERTING. -/
def Converter.inFlight : Converter → Bool
  | .settling | .converting => true
  | _ => false

/-! ### The end of a request -/

/-- The current request, its captured list and its snapshot become absent, the converter goes to `k`, and IMM_DONE is
set for an IMMEDIATE request (R75, R78). -/
def State.dropRequest (k : Converter) (s : State) : State :=
  let t := { s with seq := { s.seq with converter := k, current := none, captured := none, snapshot := none } }
  if (s.seq.current.map Request.isImmediate).getD false then t.raise .immDone else t

/-- A PAUSING scheduler becomes PAUSED at the end of the current request, and RUN_CHANGE is set (R141, R147). -/
def State.endPausing (s : State) : State :=
  if s.scheduler = .pausing then ({ s with scheduler := .paused }).raise .runChange else s

/-- The end of the current request, the converter going to `k`; arbitration, where it follows, is the caller's
(R78, R141). -/
def State.endRequest (k : Converter) (s : State) : State := (s.dropRequest k).endPausing

/-! ### Members -/

/-- The ABORTED entry of a member of the current request `r` (R80). -/
def State.memberDraft (reason : AbortReason) (r : Request) (c : Fin 16) (p : Nat) (s : State) : Draft :=
  { origin := r.origin, target := .channel c, place := r.group?.map fun g => { group := g, position := p }
    timestamp := s.timebase, kind := .aborted reason }

/-- The ABORTED entry for the work in progress: the member in flight, the member a recovering group would go on with,
or the calibration (R80). -/
def State.workDraft (reason : AbortReason) (s : State) : Option Draft :=
  match s.seq.current with
  | some (.maintenance m) =>
    some { origin := .maintenance m.count, target := .calibration m.target, place := none, timestamp := s.timebase
           kind := .aborted reason }
  | some r => (s.seq.members[s.seq.position]?).map fun c => s.memberDraft reason r c s.seq.position
  | Option.none => none

/-- The work in progress and everything after it aborted with one entry, the request ended, the converter going to
`k`; a PAUSING scheduler is the caller's (R82, R84, R85). -/
def State.abortWork (reason : AbortReason) (k : Converter) (s : State) : State :=
  match s.workDraft reason with
  | some d => (s.produceAborted d).dropRequest k
  | Option.none => s.dropRequest k

/-- Members skipped because their channels are disabled: one DISABLED entry each, in list order, the first at
position `p` (R76). -/
def State.skipMembers (r : Request) : Nat → List (Fin 16) → State → State
  | _, [], s => s
  | p, c :: rest, s =>
    State.skipMembers r (p + 1) rest
      (({ s with seq := { s.seq with position := p } }).produceAborted (s.memberDraft .disabled r c p))

/-- The start of the member of channel `c` at position `p`: its snapshot is taken and the converter enters SETTLING
(R77). -/
def State.startMember (c : Fin 16) (p : Nat) (s : State) : State :=
  let record := s.channels[c]
  { s with seq := { s.seq with
      converter := .settling
      position := p
      snapshot := some { positive := record.positive, negative := record.negative, gain := record.gain
                         settling := record.settling } } }

/-- The turn of the current request's member at position `p`: members of disabled channels are skipped, the first
enabled one starts. The flag says whether one started; where none did, the request has no member left (R76). -/
def State.takeTurn (p : Nat) (s : State) : State × Bool :=
  match s.seq.current with
  | Option.none => (s, false)
  | some r =>
    let todo := s.seq.members.drop p
    let skipped := todo.takeWhile fun c => !(s.channels[c]).enabled
    let t := s.skipMembers r p skipped
    match todo.drop skipped.length with
    | c :: _ => (t.startMember c (p + skipped.length), true)
    | [] => (t, false)

/-! ### Arbitration -/

/-- The active bank (R55). -/
def Arbiter.activeBank (a : Arbiter) : PhaseBank :=
  match a.active with
  | .a => a.bankA
  | .b => a.bankB

/-- The standby bank (R55). -/
def Arbiter.standbyBank (a : Arbiter) : PhaseBank :=
  match a.active with
  | .a => a.bankB
  | .b => a.bankA

/-- The class appears among the active phases (R57). -/
def State.active (c : ServiceClass) (s : State) : Bool := s.arbiter.activeBank.appears c

/-- The search: the first slot, from the pointer on and modulo the active length, whose class has a request waiting
(R64). -/
def State.search (s : State) : Option (Nat × ServiceClass) :=
  let bank := s.arbiter.activeBank
  (List.range bank.length).findSome? fun k =>
    let i := (s.arbiter.pointer + k) % bank.length
    match bank.slots[i]? with
    | some (.serve c) => if s.queues.waiting c then some (i, c) else none
    | _ => none

/-- The grant of request `r`, found at `slot`, leaving the queues `q`: it becomes the current request, a group request
captures its group's list, and the pointer moves past the slot (R15, R30, R65, R75). -/
def State.grant (slot : Nat) (r : Request) (q : Queues) (s : State) : State :=
  { s with
    queues := q
    arbiter := { s.arbiter with pointer := (slot + 1) % s.arbiter.activeBank.length }
    seq := { s.seq with
      current := some r
      captured := r.group?.map fun g => s.groups[g]
      position := 0
      snapshot := none } }

/-- Arbitration is taken when the scheduler is RUNNING and the converter is IDLE with no current request (R61, R62). -/
def State.free (s : State) : Bool :=
  decide (s.scheduler = .running ∧ s.seq.converter = .idle ∧ s.seq.current = none)

/-- Arbitration, with at most `n` grants: a granted calibration enters CALIBRATING, a granted request's first enabled
member starts, and a request all of whose members are skipped ends at its grant, which takes the next arbitration
(R61 to R66, R76, R78, R79). -/
def State.arbitrateFor : Nat → State → State
  | 0, s => s
  | n + 1, s =>
    if s.free then
      match s.search with
      | Option.none => s
      | some (slot, c) =>
        match s.queues.take c with
        | Option.none => s
        | some (r, q) =>
          let t := s.grant slot r q
          match r with
          | .maintenance _ => { t with seq := { t.seq with converter := .calibrating } }
          | _ =>
            match t.takeTurn 0 with
            | (u, true) => u
            | (u, false) => State.arbitrateFor n (u.endRequest .idle)
    else s

/-- Arbitration (R61). Every grant takes one pending request, so the requests pending bound the grants. -/
def State.arbitrate (s : State) : State := s.arbitrateFor (s.queues.total + 1)

/-- The turn of the member at position `p`, and, when no member is left to start, the end of the request and the
arbitration that follows it (R76, R78). -/
def State.goOn (p : Nat) (s : State) : State :=
  match s.takeTurn p with
  | (t, true) => t
  | (t, false) => (t.endRequest .idle).arbitrate

/-! ### Posting -/

/-- An IMMEDIATE request queued at the tail, and the arbitration its posting takes (R23, R29). -/
def State.postImmediate (r : ImmRequest) (s : State) : State :=
  ({ s with queues := { s.queues with immediate := s.queues.immediate ++ [r] } }).arbitrate

/-- A TRIGGERED demand: dropped, coalesced, or queued as a new request that arbitrates at its posting (R27, R29). -/
def State.postTriggered (g : Fin 4) (s : State) : State :=
  if !s.active .triggered then s.raise .trgOverrun
  else if pendingFor g s.queues.triggered then
    ({ s with queues := { s.queues with triggered := mergeInto g s.queues.triggered } }).raise .trgOverrun
  else ({ s with queues := { s.queues with triggered := s.queues.triggered ++ [Merged.fresh g] } }).arbitrate

/-- A CADENCE demand: dropped, coalesced, or queued as a new request that arbitrates at its posting (R26, R29). -/
def State.postCadence (c : Fin 16) (s : State) : State :=
  if !s.active .cadence then s.raise .cadOverrun
  else if pendingFor c s.queues.cadence then
    ({ s with queues := { s.queues with cadence := mergeInto c s.queues.cadence } }).raise .cadOverrun
  else ({ s with queues := { s.queues with cadence := s.queues.cadence ++ [Merged.fresh c] } }).arbitrate

/-- A MAINTENANCE demand: coalesced, or queued as a new request that arbitrates at its posting (R25, R28, R29). -/
def State.postMaintenance (m : CalTarget) (s : State) : State :=
  if pendingFor m s.queues.maintenance then
    { s with queues := { s.queues with maintenance := mergeInto m s.queues.maintenance } }
  else ({ s with queues := { s.queues with maintenance := s.queues.maintenance ++ [Merged.fresh m] } }).arbitrate

/-! ### Cadence and triggers -/

/-- An expiry of channel `c`: its countdown is loaded with the stored period and one CADENCE demand is handed on
(R41, R42). -/
def State.expire (c : Fin 16) (s : State) : State :=
  ({ s with cadence := s.cadence.set c { s.cadence[c] with countdown := (s.channels[c]).period } }).postCadence c

/-- An expiry of channel `c` is due: it is armed, its countdown stands at 0, and the scheduler accepts demands
(R21, R41). -/
def State.expiryDue (c : Fin 16) (s : State) : Bool :=
  (s.cadence[c]).armed && (s.cadence[c]).countdown == 0 && s.scheduler.accepts

/-- The sixteen channel numbers in increasing order. -/
def channelOrder : List (Fin 16) := List.finRange 16

/-- Every expiry that is due taken, in increasing channel order (R40, R41). -/
def State.takeExpiries (s : State) : State :=
  channelOrder.foldl (fun t c => if t.expiryDue c then t.expire c else t) s

/-- The lowest-numbered channel whose expiry is due (R41). -/
def State.nextExpiry (s : State) : Option (Fin 16) := channelOrder.find? fun c => s.expiryDue c

/-- Channel `c` armed with its countdown loaded with its stored offset; it expires at once when the offset is 0
(R11, R40). -/
def State.arm (c : Fin 16) (s : State) : State :=
  let t := { s with cadence := s.cadence.set c { armed := true, countdown := (s.channels[c]).offset } }
  if (s.channels[c]).offset = 0 then t.expire c else t

/-- Channel `c` disarmed with its countdown at 0 (R43). -/
def State.disarm (c : Fin 16) (s : State) : State :=
  { s with cadence := s.cadence.set c { armed := false, countdown := 0 } }

/-- The record asks for cadence: enabled, with a period other than 0 (R39). -/
def ChannelRecord.cadenced (r : ChannelRecord) : Bool := r.enabled && r.period != 0

/-- An accepted trigger on input `i`: its holdoff count is loaded and one TRIGGERED demand is handed on (R49, R50,
R52). -/
def State.acceptTrigger (i : Fin 2) (s : State) : State :=
  let record := (s.triggers[i]).record
  ({ s with triggers := s.triggers.set i { s.triggers[i] with count := record.holdoff } }).postTriggered record.group

/-! ### Withdrawn requests -/

/-- The ABORTED entry of an IMMEDIATE request that leaves its queue without a grant (R32). A group request names the
channel at position 0 of its group's list; a pending request's group is never empty (R14), and an empty one would give
no entry: DESIGN CHOICE (log 16). -/
def State.withdrawnDraft (reason : AbortReason) (r : ImmRequest) (s : State) : Option Draft :=
  match r.target with
  | .channel c =>
    some { origin := .immediate r.tag, target := .channel c, place := none, timestamp := s.timebase
           kind := .aborted reason }
  | .group g =>
    (s.groups[g]).head?.map fun c =>
      { origin := .immediate r.tag, target := .channel c, place := some { group := g, position := 0 }
        timestamp := s.timebase, kind := .aborted reason }

/-- A withdrawn IMMEDIATE request: its ABORTED entry and IMM_DONE (R7, R31, R32). -/
def State.withdraw (reason : AbortReason) (s : State) (r : ImmRequest) : State :=
  match s.withdrawnDraft reason r with
  | some d => (s.produceAborted d).raise .immDone
  | Option.none => s.raise .immDone

/-- All four queues flushed, with an entry for each IMMEDIATE request, oldest first (R31). -/
def State.flush (s : State) : State :=
  s.queues.immediate.foldl (State.withdraw .stop) { s with queues := .none }

/-! ### Resets -/

/-- The host port waiting for CSN, its partial byte, snapshot and acknowledged set discarded (R159, R160, R164). -/
def Port.idle (p : Port) : Port :=
  { p with phase := .waiting, bits := [], snapshot := none, clocked := Vector.replicate 32 false }

/-- A transaction abandoned by RSTN low or POR: the items that have a reset value take it (R146,
R159). DEDUCED: the port then waits for the next falling edge of CSN (log 11). -/
def Port.abandoned (p : Port) : Port := { p.idle with acknowledge := false }

/-- A device reset: every block at its reset values but the calibration records; the transaction items, the levels
outside and the operations still to come are as they were, and the last levels of TRIG0 and TRIG1 are taken from the
pins (R48, R86, R145). -/
def State.deviceReset (s : State) : State :=
  { State.reset with
    calibration := s.calibration
    triggers := #v[.reset s.pins.trig[0], .reset s.pins.trig[1]]
    port := s.port
    pins := s.pins
    pending := s.pending }

/-- The part is held in reset: RSTN low, or the supply below its POR threshold (R146). DEDUCED: until both have ended
(log 19). -/
def State.held (s : State) : Bool := s.pins.rstnLow || s.pins.supplyDown

/-- The last levels of TRIG0 and TRIG1 taken from the pins at the end of a reset (R48). -/
def State.latchLevels (s : State) : State :=
  { s with triggers := #v[{ s.triggers[0] with lastLevel := s.pins.trig[0] },
      { s.triggers[1] with lastLevel := s.pins.trig[1] }] }

/-! ### The host port -/

/-- The transaction is a write and its data bytes are under way (R163). -/
def State.writing (s : State) : Bool := decide (s.port.phase = .data ∧ s.port.direction = .write)

/-- The next byte of the transaction is a data byte of a write to address `a`. -/
def State.writingAt (a : Byte) (s : State) : Bool := s.writing && s.port.pointer == a

/-- The address pointer advances by 1, from FFh to 00h (R162). -/
def State.advance (s : State) : State := { s with port := { s.port with pointer := s.port.pointer + 1 } }

/-- What a command leaves: its result, its detail and the state of the other blocks (R168). -/
structure Answer where
  result : ResultCode
  detail : DetailCode
  state : State

/-- A refusal that changes nothing outside the Host Port but CMD_ERROR (R168). -/
def State.refuse (r : ResultCode) (s : State) : Answer := { result := r, detail := .none, state := s }

/-- A refusal with a detail (R168). -/
def State.refuseWith (r : ResultCode) (d : DetailCode) (s : State) : Answer := { result := r, detail := d, state := s }

/-- An accepted command (R168). -/
def State.accept (s : State) : Answer := { result := .ok, detail := .none, state := s }

/-- CMD_RESULT and CMD_ECHO set at the CMD byte's completion; a result other than OK sets CMD_ERROR (R153, R167). -/
def Answer.leave (code : Byte) (a : Answer) : State :=
  let t := { a.state with command := { a.state.command with result := a.result, detail := a.detail, echo := code } }
  if a.result = .ok then t else t.raise .cmdError

/-- A command's byte completed at CMD: the pointer advances, and the command is refused with NOT_READY during STARTING
or carried out (R137, R163, R166, R167). -/
def State.takeCommand (code : Byte) (carryOut : State → Answer) (s : State) : State :=
  let t := s.advance
  (if t.scheduler = .starting then t.refuse .notReady else carryOut t).leave code

/-- A data byte of a write completed at a register: it takes effect outside STARTING, and the pointer advances
(R137, R163, R166). -/
def State.takeRegister (effect : State → State) (s : State) : State :=
  let t := s.advance
  if t.scheduler = .starting then t else effect t

/-- The outcome of an operation or event: its effect where the state lets it occur, and no change where it cannot:
DESIGN CHOICE (log 1). -/
def State.occur (s : State) (possible : Bool) (t : State) : Host.Outcome State Fault Refusal :=
  .next (if possible then t else s)

end Sys2Proof.Machine
end

