-- ==== Sys2Proof/Machine/Registers.lean ====
section
/-! DEFINITION. The bytes a write transaction leaves at the alert registers, at DEVIATION_SET, and at the addresses
without a row of their own (R92, R128, R149 to R155, R163, R174). -/

namespace Sys2Proof.Machine

/-- A request to clear REF_FAULT (R92, R151): refused while the reference condition is present or a halt is pending;
otherwise the flag is cleared and a HALTED converter enters IDLE, with arbitration. -/
def State.requestRefFaultClear (s : State) : State :=
  if s.refCondition || s.seq.haltPending then s
  else
    let t := { s with alerts := { s.alerts with flags := { s.alerts.flags with refFault := false } } }
    if s.seq.converter = .halted then ({ t with seq := { t.seq with converter := .idle } }).arbitrate else t

/-- A byte at 18h: the latched flags at its ones are cleared (R149). -/
def State.clearFlagsLow (v : Byte) (s : State) : State :=
  { s with alerts := { s.alerts with flags := s.alerts.flags.clearLow v } }

/-- A byte at 19h: ABORTED, CMD_ERROR and RUN_CHANGE are cleared at its ones; then a one at bit 0 requests the clear of
REF_FAULT (R149, R151). DEDUCED: in that order (log 6). -/
def State.clearFlagsHigh (v : Byte) (s : State) : State :=
  let t := { s with alerts := { s.alerts with flags := s.alerts.flags.clearHigh v } }
  if v.getLsbD 0 then t.requestRefFaultClear else t

/-- A byte completes at 18h or 19h (R149). -/
def execClearLatchedFlag (value : Byte) (s : State) : Host.Outcome State Fault Refusal :=
  if s.writingAt 0x18 then .next (s.takeRegister (State.clearFlagsLow value))
  else s.occur (s.writingAt 0x19) (s.takeRegister (State.clearFlagsHigh value))

/-- A byte with a one at REF_FAULT's position completes at 19h (R92, R151). -/
def execRefFaultClear (value : Byte) (s : State) : Host.Outcome State Fault Refusal :=
  s.occur (s.writingAt 0x19 && (Instr.refFaultClear value).wellFormed) (s.takeRegister (State.clearFlagsHigh value))

/-- A byte at 1Ah stores the enables of the low flags (R154). -/
def State.storeEnableLow (v : Byte) (s : State) : State := { s with alerts := { s.alerts with enableLow := v } }

/-- A byte at 1Bh stores the enables of the high flags; its positions without a flag are ignored (R154). -/
def State.storeEnableHigh (v : Byte) (s : State) : State :=
  { s with alerts := { s.alerts with enableHigh := v.extractLsb' 0 4 } }

/-- A byte completes at 1Ah or 1Bh (R154). -/
def execAlertEnableWrite (value : Byte) (s : State) : Host.Outcome State Fault Refusal :=
  if s.writingAt 0x1A then .next (s.takeRegister (State.storeEnableLow value))
  else s.occur (s.writingAt 0x1B) (s.takeRegister (State.storeEnableHigh value))

/-- A byte at 1Ch stores the master enable from its lowest bit (R155). -/
def State.storeMaster (v : Byte) (s : State) : State := { s with alerts := { s.alerts with master := v.getLsbD 0 } }

/-- A byte completes at 1Ch (R155). -/
def execAlertMasterWrite (value : Byte) (s : State) : Host.Outcome State Fault Refusal :=
  s.occur (s.writingAt 0x1C) (s.takeRegister (State.storeMaster value))

/-- The clear requests of a byte for channels `8 * k` to `8 * k + 7`: a channel whose condition does not hold leaves
the deviation set (R128). -/
def State.requestDeviationClear (k : Nat) (v : Byte) (s : State) : State :=
  { s with monitors := Vector.ofFn fun c =>
      if c.val / 8 = k ∧ v.getLsbD (c.val % 8) ∧ ¬ s.deviates c then { s.monitors[c] with inSet := false }
      else s.monitors[c] }

/-- A byte completes at 1Eh or 1Fh (R128). -/
def execDeviationSetClearRequest (value : Byte) (s : State) : Host.Outcome State Fault Refusal :=
  if s.writingAt 0x1E then .next (s.takeRegister (State.requestDeviationClear 0 value))
  else s.occur (s.writingAt 0x1F) (s.takeRegister (State.requestDeviationClear 1 value))

/-- The addresses that have a row of their own: CMD, the alert registers, DEVIATION_SET (R163). -/
def ownRowAddresses : List Byte := [0x14, 0x18, 0x19, 0x1A, 0x1B, 0x1C, 0x1E, 0x1F]

/-- A byte stored at an argument or in the staging buffer, and ignored anywhere else (R163, R174). -/
def State.storeByte (a v : Byte) (s : State) : State :=
  let n := a.toNat
  if 0x10 ≤ n ∧ n < 0x14 then
    { s with command := { s.command with args := s.command.args.setIfInBounds (n - 0x10) v } }
  else if 0x40 ≤ n ∧ n < 0x68 then
    { s with command := { s.command with staging := s.command.staging.setIfInBounds (n - 0x40) v } }
  else s

/-- A byte of a write completes at an address without a row of its own (R163). -/
def execRegisterWrite (value : Byte) (s : State) : Host.Outcome State Fault Refusal :=
  s.occur (s.writing && !ownRowAddresses.contains s.port.pointer)
    (s.takeRegister (State.storeByte s.port.pointer value))

end Sys2Proof.Machine
end

