-- ==== Sys2Proof/Machine/Requests.lean ====
section
/-! DEFINITION. The commands that post demands: POST, SOFT_TRIGGER, CALIBRATE (R23, R28, R51, R52). -/

namespace Sys2Proof.Machine

/-- POST, by the checks of R23 in their order. -/
def State.postCommand (s : State) : Answer :=
  if !s.scheduler.accepts then s.refuse .badState
  else match postTarget s.command.args[0] s.command.args[1] with
  | none => s.refuse .badArg
  | some target =>
    let undefined := match target with | .group g => (s.groups[g]).isEmpty | .channel _ => false
    let disabled := match target with | .group _ => false | .channel c => !(s.channels[c]).enabled
    if undefined then s.refuse .badArg
    else if !s.active .immediate then s.refuse .noPhase
    else if disabled then s.refuse .disabled
    else if Config.immediateCapacity ≤ s.queues.immediate.length then s.refuse .full
    else (s.postImmediate { target := target, tag := s.command.args[2] }).accept

/-- POST: code 10h completes at CMD. -/
def execPost (s : State) : Host.Outcome State Fault Refusal :=
  s.occur (s.writingAt 0x14) (s.takeCommand 0x10 State.postCommand)

/-- SOFT_TRIGGER, by the checks of R51 in their order; one that passes is an accepted trigger (R52). -/
def State.softTriggerCommand (s : State) : Answer :=
  if !s.scheduler.accepts then s.refuse .badState
  else match byteFin 2 s.command.args[0] with
  | none => s.refuse .badArg
  | some i =>
    if (s.triggers[i]).record.edge = .off then s.refuse .badState
    else if (s.triggers[i]).count ≠ 0 then s.refuse .holdoff
    else if !s.active .triggered then s.refuse .noPhase
    else (s.acceptTrigger i).accept

/-- SOFT_TRIGGER: code 11h completes at CMD. -/
def execSoftTrigger (s : State) : Host.Outcome State Fault Refusal :=
  s.occur (s.writingAt 0x14) (s.takeCommand 0x11 State.softTriggerCommand)

/-- CALIBRATE, by the checks of R28 in their order; the set bits are posted in increasing bit order. -/
def State.calibrateCommand (s : State) : Answer :=
  if !s.scheduler.accepts then s.refuse .badState
  else if s.command.args[0] = 0 then s.refuse .badArg
  else if !s.active .maintenance then s.refuse .noPhase
  else ((calTargets s.command.args[0]).foldl (fun t m => t.postMaintenance m) s).accept

/-- CALIBRATE: code 12h completes at CMD. -/
def execCalibrate (s : State) : Host.Outcome State Fault Refusal :=
  s.occur (s.writingAt 0x14) (s.takeCommand 0x12 State.calibrateCommand)

end Sys2Proof.Machine
end

