-- ==== Sys2Proof/Machine/Resets.lean ====
section
/-! DEFINITION. RSTN, POR and the start-up interval (R137, R138, R146). -/

namespace Sys2Proof.Machine

/-- RSTN low: the part is held in device reset and a transaction in progress is abandoned (R146, R159). -/
def execRstnLow (s : State) : Host.Outcome State Fault Refusal :=
  .next { s.deviceReset with port := s.port.abandoned, pins := { s.pins with rstnLow := true } }

/-- RSTN rises after a low: the start-up interval begins, and the last levels of TRIG0 and TRIG1 are taken from the
pins (R48, R137). -/
def execRstnRise (s : State) : Host.Outcome State Fault Refusal :=
  s.occur s.pins.rstnLow ({ s with pins := { s.pins with rstnLow := false } }).latchLevels

/-- POR: as RSTN held low, and the calibration records return to NOMINAL (R94, R146). -/
def execPor (s : State) : Host.Outcome State Fault Refusal :=
  .next { s.deviceReset with
    calibration := Vector.replicate 4 .nominal
    port := s.port.abandoned
    pins := { s.pins with supplyDown := true } }

/-- The supply is established: the start-up interval begins, and the last levels are taken from the pins (R48,
R137). -/
def execSupplyEstablished (s : State) : Host.Outcome State Fault Refusal :=
  s.occur s.pins.supplyDown ({ s with pins := { s.pins with supplyDown := false } }).latchLevels

/-- The end of the start-up interval: STOPPED with RUN_CHANGE, the first tick interval begins, and the reference
condition is evaluated; a condition present sets REF_FAULT and halts the converter (R35, R90, R138). -/
def State.leaveStarting (s : State) : State :=
  let t := ({ s with scheduler := .stopped, intervalSel := s.tickSel, refCondition := s.pins.refOutside }).raise .runChange
  if s.pins.refOutside then ({ t with seq := { t.seq with converter := .halted } }).raise .refFault else t

/-- The start-up interval expires; it does not run while the part is held in reset (R137, R138, R146). -/
def execEndOfStarting (s : State) : Host.Outcome State Fault Refusal :=
  s.occur (decide (s.scheduler = .starting) && !s.held) s.leaveStarting

end Sys2Proof.Machine
end

