-- ==== Sys2Proof/Machine/RingCommands.lean ====
section
/-! DEFINITION. The ring commands (R117, R121, R122). -/

namespace Sys2Proof.Machine

/-- RING_RELEASE, decided by the modular distance of the sequence number from the head's (R117). -/
def State.releaseCommand (s : State) : Answer :=
  match s.ring.entries with
  | [] => s.refuse .empty
  | head :: _ =>
    let d := (word16 s.command.args[0] s.command.args[1] - head.seq).toNat
    if d < s.ring.entries.length then
      ({ s with ring := { s.ring with entries := s.ring.entries.drop (d + 1) } }).accept
    else if d < 32768 then s.refuse .badArg
    else s.refuse .stale

/-- RING_RELEASE: code 30h completes at CMD. -/
def execRingRelease (s : State) : Host.Outcome State Fault Refusal :=
  s.occur (s.writingAt 0x14) (s.takeCommand 0x30 State.releaseCommand)

/-- RING_CLEAR: the ring emptied and both counts 0; the next sequence number goes on (R121). -/
def State.clearCommand (s : State) : Answer :=
  ({ s with ring := { s.ring with entries := [], lossCount := 0, pendingLoss := 0 } }).accept

/-- RING_CLEAR: code 31h completes at CMD. -/
def execRingClear (s : State) : Host.Outcome State Fault Refusal :=
  s.occur (s.writingAt 0x14) (s.takeCommand 0x31 State.clearCommand)

/-- RING_CONFIG (R122). -/
def State.configCommand (s : State) : Answer :=
  let w := (s.command.args[1]).toNat
  match policyOf s.command.args[0] with
  | none => s.refuse .badArg
  | some policy =>
    if w = 0 ∨ Config.ringCapacity < w then s.refuse .badArg
    else ({ s with ring := { s.ring with policy := policy, watermark := w } }).accept

/-- RING_CONFIG: code 32h completes at CMD. -/
def execRingConfig (s : State) : Host.Outcome State Fault Refusal :=
  s.occur (s.writingAt 0x14) (s.takeCommand 0x32 State.configCommand)

end Sys2Proof.Machine
end

