-- ==== Sys2Proof/Machine/RunControl.lean ====
section
/-! DEFINITION. The run commands and ABORT_CURRENT (R82, R139 to R145). -/

namespace Sys2Proof.Machine

/-- Every enabled channel with a period other than 0 armed, its countdown loaded with its offset (R40). -/
def State.armAll (s : State) : State :=
  { s with cadence := Vector.ofFn fun c =>
      if (s.channels[c]).cadenced then { armed := true, countdown := (s.channels[c]).offset } else s.cadence[c] }

/-- START (R139): RUNNING, the cadences armed, the offset-0 expiries in channel order, then arbitration. -/
def State.startCommand (s : State) : Answer :=
  if s.scheduler = .stopped then
    ((({ s with scheduler := .running }).armAll.takeExpiries).arbitrate).accept
  else s.refuse .badState

/-- START: code 01h completes at CMD. -/
def execStart (s : State) : Host.Outcome State Fault Refusal :=
  s.occur (s.writingAt 0x14) (s.takeCommand 0x01 State.startCommand)

/-- PAUSE (R140): PAUSING when a request is current, PAUSED with RUN_CHANGE when none is. -/
def State.pauseCommand (s : State) : Answer :=
  match s.scheduler with
  | .running =>
    if s.seq.current.isSome then ({ s with scheduler := .pausing }).accept
    else (({ s with scheduler := .paused }).raise .runChange).accept
  | .pausing => s.accept
  | .starting | .stopped | .paused => s.refuse .badState

/-- PAUSE: code 02h completes at CMD. -/
def execPause (s : State) : Host.Outcome State Fault Refusal :=
  s.occur (s.writingAt 0x14) (s.takeCommand 0x02 State.pauseCommand)

/-- RESUME (R142): RUNNING; from PAUSED arbitration is taken. -/
def State.resumeCommand (s : State) : Answer :=
  match s.scheduler with
  | .pausing => ({ s with scheduler := .running }).accept
  | .paused => (({ s with scheduler := .running }).arbitrate).accept
  | .starting | .stopped | .running => s.refuse .badState

/-- RESUME: code 03h completes at CMD. -/
def execResume (s : State) : Host.Outcome State Fault Refusal :=
  s.occur (s.writingAt 0x14) (s.takeCommand 0x03 State.resumeCommand)

/-- Step 1 of STOP: the current request ends with its entry of reason STOP; a HALTED or IDLE converter has none and
stays as it is (R84). -/
def State.stopWork (s : State) : State :=
  match s.seq.converter with
  | .settling | .converting | .calibrating | .recovering =>
    if s.seq.current.isSome then s.abortWork .stop .recovering else s
  | .idle | .halted => s

/-- Every cadence disarmed (R43). -/
def State.disarmAll (s : State) : State :=
  { s with cadence := Vector.replicate 16 { armed := false, countdown := 0 } }

/-- Both holdoffs ended (R53). -/
def State.endHoldoffs (s : State) : State := { s with triggers := s.triggers.map fun t => { t with count := 0 } }

/-- STOP (R143), its five steps in order. -/
def State.stopCommand (s : State) : Answer :=
  if s.scheduler.accepts then
    (({ s.stopWork.flush.disarmAll.endHoldoffs with scheduler := .stopped }).raise .runChange).accept
  else s.refuse .badState

/-- STOP: code 04h completes at CMD. -/
def execStop (s : State) : Host.Outcome State Fault Refusal :=
  s.occur (s.writingAt 0x14) (s.takeCommand 0x04 State.stopCommand)

/-- ABORT_CURRENT (R82): decided by the converter state. -/
def State.abortCommand (s : State) : Answer :=
  match s.seq.converter with
  | .settling | .converting => ((s.abortWork .host .recovering).endPausing).accept
  | .calibrating => s.refuse .badState
  | .idle | .recovering | .halted => s.refuse .idle

/-- ABORT_CURRENT: code 05h completes at CMD. -/
def execAbortCurrent (s : State) : Host.Outcome State Fault Refusal :=
  s.occur (s.writingAt 0x14) (s.takeCommand 0x05 State.abortCommand)

/-- DEVICE_RESET at its CMD byte: refused during STARTING, otherwise a device reset that leaves no result of its own
(R137, R145, R167). DEDUCED: the transaction goes on, its pointer past CMD (log 10). -/
def State.resetCommand (s : State) : State :=
  if s.scheduler = .starting then s.takeCommand 0x5A (State.refuse .notReady) else s.advance.deviceReset

/-- DEVICE_RESET: code 5Ah completes at CMD. -/
def execDeviceReset (s : State) : Host.Outcome State Fault Refusal :=
  s.occur (s.writingAt 0x14) s.resetCommand

end Sys2Proof.Machine
end

