-- ==== Sys2Proof/Machine/Correction.lean ====
section
/-! DEFINITION. The arithmetic of the Result Stage and the Calibration Unit, on integers (R97, R98, R102 to R104). -/

namespace Sys2Proof.Machine

/-- The nearest integer to `n / d`, halves rounded away from zero (R102). -/
def roundAway (n : Int) (d : Nat) : Int :=
  let m : Int := (2 * n.natAbs + d) / (2 * d)
  if n < 0 then -m else m

/-- The distance of a raw code from midscale, less the offset constant (R102). -/
def centred (raw : Word16) (r : CalRecord) : Int := (raw.toNat : Int) - Config.midscale - r.offset.toInt

/-- The corrected value before the clip (R102). -/
def scaled (raw : Word16) (r : CalRecord) : Int := roundAway (centred raw r * r.gain.toNat) Config.unityGain

/-- A value clipped to −32768 to 32767 (R102). -/
def clipCode (v : Int) : Int := max (-32768) (min 32767 v)

/-- The corrected value of a raw code (R102). -/
def correct (raw : Word16) (r : CalRecord) : Word16 := BitVec.ofInt 16 (clipCode (scaled raw r))

/-- CLIP: the raw code is 0 or 65535, or the clip changed the rounded value (R103). -/
def clipFlag (raw : Word16) (r : CalRecord) : Bool :=
  decide (raw = 0 ∨ raw = 0xFFFF ∨ clipCode (scaled raw r) ≠ scaled raw r)

/-- UNCAL: the record's last calibration did not confirm its constants (R104). -/
def uncalFlag (r : CalRecord) : Bool := decide (r.validity ≠ .calibrated)

/-- The candidate gain constant of a positive span, halves rounded up (R98). -/
def gainCandidate (d : Nat) : Nat := (2 * (Config.idealSpan * Config.unityGain) + d) / (2 * d)

/-- The constant a calibration stores, or none when it fails: an OFFSET candidate from −2048 to 2048, a GAIN candidate
from 29491 to 36045 of a positive span (R97, R98). -/
def calOutcome (kind : CalKind) (raw : Word16) (r : CalRecord) : Option Word16 :=
  match kind with
  | .offset =>
    let candidate : Int := (raw.toNat : Int) - Config.midscale
    if -Config.offsetLimit ≤ candidate ∧ candidate ≤ Config.offsetLimit then some (BitVec.ofInt 16 candidate) else none
  | .gain =>
    let d := centred raw r
    if d ≤ 0 then none
    else
      let candidate := gainCandidate d.toNat
      if Config.gainLow ≤ candidate ∧ candidate ≤ Config.gainHigh then some (BitVec.ofNat 16 candidate) else none

/-- The record after a calibration that completed at `now` with this outcome (R95 to R98). -/
def CalRecord.after (kind : CalKind) (outcome : Option Word16) (now : Word32) (r : CalRecord) : CalRecord :=
  match outcome, kind with
  | some v, .offset => { r with validity := .calibrated, offset := v, calibratedAt := some now }
  | some v, .gain => { r with validity := .calibrated, gain := v, calibratedAt := some now }
  | none, _ => { r with validity := .failed }

end Sys2Proof.Machine
end

