-- ==== Sys2Proof/Machine/Sequencing.lean ====
section
/-! DEFINITION. The Conversion Sequencer's own events and the Reference Monitor's: the end of settling, the completions,
the end of a recovery, the onset and the recovery of the reference (R77 to R79, R81, R85, R89 to R91, R97 to R99,
R125). -/

namespace Sys2Proof.Machine

/-- The member in flight: the current request, its channel and its snapshot (R75, R77). -/
def Sequencer.inFlight (q : Sequencer) : Option (Request × Fin 16 × MemberSnapshot) :=
  match q.current, q.members[q.position]?, q.snapshot with
  | some r, some c, some m => some (r, c, m)
  | _, _, _ => none

/-- The end of the settling time: the input is sampled and the converter enters CONVERTING (R77). -/
def State.settle (s : State) : State :=
  { s with seq := { s.seq with converter := .converting, sampledAt := s.timebase } }

/-- The settling time of the member ends. -/
def execEndOfSettling (s : State) : Host.Outcome State Fault Refusal :=
  s.occur (decide (s.seq.converter = .settling)) s.settle

/-- The latest value and timestamp of channel `c` set from a sample, and its condition evaluated (R125). -/
def State.recordSample (c : Fin 16) (v : Word16) (s : State) : State :=
  let record := { s.monitors[c] with latest := some { value := v, timestamp := s.seq.sampledAt } }
  ({ s with monitors := s.monitors.set c record }).evaluate c

/-- The SAMPLE entry of the member of channel `c` in flight, with DEV the condition as it stands (R78, R108, R125). -/
def State.sampleDraft (raw : Word16) (r : Request) (c : Fin 16) (m : MemberSnapshot) (s : State) : Draft :=
  let k := s.calibration[m.gain]
  { origin := r.origin, target := .channel c
    place := r.group?.map fun g => { group := g, position := s.seq.position }
    timestamp := s.seq.sampledAt
    kind := .sample (correct raw k) { clip := clipFlag raw k, uncal := uncalFlag k, dev := s.deviates c } }

/-- The completion of the member in flight with a raw code: correction, monitor record, SAMPLE entry, and then the next
member's turn or the end of the request (R78, R102, R125). -/
def State.completeMember (raw : Word16) (r : Request) (c : Fin 16) (m : MemberSnapshot) (s : State) : State :=
  let t := s.recordSample c (correct raw s.calibration[m.gain])
  let u := t.produce (t.sampleDraft raw r c m)
  ({ u with seq := { u.seq with snapshot := none } }).goOn (s.seq.position + 1)

/-- The conversion of the member in flight ends. DESIGN CHOICE: any raw code may come (log 18). -/
def execConversionCompletion (raw : Word16) (s : State) : Host.Outcome State Fault Refusal :=
  match s.seq.inFlight with
  | some (r, c, m) => s.occur (decide (s.seq.converter = .converting)) (s.completeMember raw r c m)
  | none => .next s

/-- The CALIBRATION entry (R99). -/
def calDraft (request : Merged CalTarget) (outcome : Option Word16) (now : Word32) : Draft :=
  { origin := .maintenance request.count, target := .calibration request.target, place := none, timestamp := now
    kind := match outcome with | some v => .calibrationDone v | none => .calibrationFail }

/-- The completion of a calibration: the record, then the flag, then the entry, then the end of the request and
arbitration (R79, R99). -/
def State.completeCalibration (raw : Word16) (request : Merged CalTarget) (s : State) : State :=
  let g := request.target.gain
  let outcome := calOutcome request.target.kind raw s.calibration[g]
  let t := { s with
    calibration := s.calibration.set g ((s.calibration[g]).after request.target.kind outcome s.timebase) }
  let u := t.raise (if outcome.isSome then .calDone else .calFail)
  ((u.produce (calDraft request outcome s.timebase)).endRequest .idle).arbitrate

/-- CALIBRATING ends. -/
def execCalibrationCompletion (raw : Word16) (s : State) : Host.Outcome State Fault Refusal :=
  match s.seq.current with
  | some (.maintenance request) =>
    s.occur (decide (s.seq.converter = .calibrating)) (s.completeCalibration raw request)
  | _ => .next s

/-- The end of a recovery: a pending halt is taken, or the current group goes on with its next member, or the converter
is IDLE and arbitration is taken (R81). -/
def State.endRecovery (s : State) : State :=
  if s.seq.haltPending then { s with seq := { s.seq with converter := .halted, haltPending := false } }
  else if s.seq.current.isSome then s.goOn s.seq.position
  else ({ s with seq := { s.seq with converter := .idle } }).arbitrate

/-- The recovery ends. -/
def execEndOfRecovery (s : State) : Host.Outcome State Fault Refusal :=
  s.occur (decide (s.seq.converter = .recovering)) s.endRecovery

/-- What an onset does to the sequencer, by the converter state (R85, R91). -/
def State.haltForReference (s : State) : State :=
  match s.seq.converter with
  | .settling | .converting | .calibrating => (s.abortWork .reference .halted).endPausing
  | .recovering =>
    let t := if s.seq.current.isSome then (s.abortWork .reference .recovering).endPausing else s
    { t with seq := { t.seq with haltPending := true } }
  | .idle => { s with seq := { s.seq with converter := .halted } }
  | .halted => s

/-- REFP minus REFN leaves its window. The condition is held absent through STARTING; from then on an onset sets
REF_FAULT and acts on the sequencer (R89, R90). DESIGN CHOICE: the level and the condition are held apart (log 17). -/
def execReferenceOnset (s : State) : Host.Outcome State Fault Refusal :=
  let t := { s with pins := { s.pins with refOutside := true } }
  .next (if s.scheduler = .starting then t
    else (({ t with refCondition := true }).raise .refFault).haltForReference)

/-- REFP minus REFN returns inside its window: only the condition follows it (R89, R91). -/
def execReferenceRecovery (s : State) : Host.Outcome State Fault Refusal :=
  .next { s with pins := { s.pins with refOutside := false }, refCondition := false }

end Sys2Proof.Machine
end

