-- ==== Sys2Proof/Machine/Settings.lean ====
section
/-! DEFINITION. SET_REFERENCE, SET_TICK, and a byte at CMD that names no command (R37, R133, R167). -/

namespace Sys2Proof.Machine

/-- SET_REFERENCE, by its two checks in order; with presence absent the value is not read (R133). -/
def State.setReferenceCommand (s : State) : Answer :=
  match byteFin 16 s.command.args[0] with
  | none => s.refuse .badArg
  | some c =>
    if s.command.args[1] = 0x01 then (s.putReference c (some (word16 s.command.args[2] s.command.args[3]))).accept
    else if s.command.args[1] = 0x00 then (s.putReference c none).accept
    else s.refuse .badArg

/-- SET_REFERENCE: code 40h completes at CMD. -/
def execSetReference (s : State) : Host.Outcome State Fault Refusal :=
  s.occur (s.writingAt 0x14) (s.takeCommand 0x40 State.setReferenceCommand)

/-- SET_TICK, by its checks in order: the selection is stored at once, and the interval in progress keeps its period
(R37). -/
def State.setTickCommand (s : State) : Answer :=
  if s.scheduler ≠ .stopped then s.refuse .badState
  else if 3 < (s.command.args[0]).toNat then s.refuse .badArg
  else ({ s with tickSel := (s.command.args[0]).extractLsb' 0 2 }).accept

/-- SET_TICK: code 41h completes at CMD. -/
def execSetTick (s : State) : Host.Outcome State Fault Refusal :=
  s.occur (s.writingAt 0x14) (s.takeCommand 0x41 State.setTickCommand)

/-- A byte that is none of the seventeen codes completes at CMD: refused with BAD_ARG (R167). -/
def execUnknownCommandCode (code : Byte) (s : State) : Host.Outcome State Fault Refusal :=
  s.occur (s.writingAt 0x14 && (Instr.unknownCommandCode code).wellFormed) (s.takeCommand code (State.refuse .badArg))

end Sys2Proof.Machine
end

