-- ==== Sys2Proof/Machine/Tables.lean ====
section
/-! DEFINITION. Table access and the bank swap: TABLE_READ, TABLE_WRITE with its effects on the other blocks, and
SWAP_BANKS (R5 to R16, R46, R47, R58 to R60, R67, R68, R105, R134, R169 to R171). -/

namespace Sys2Proof.Machine

/-- The bytes of a named record, as it stands, in its staging layout (R170). -/
def State.recordBytes (s : State) : RecordName → List Byte
  | .channel i => (s.channels[i]).bytes
  | .group i => groupBytes s.groups[i]
  | .trigger i => (s.triggers[i]).record.bytes
  | .standbyBank => s.arbiter.standbyBank.bytes
  | .activeBank => s.arbiter.activeBank.bytes
  | .calibration i => (s.calibration[i]).bytes
  | .monitor i => (s.monitors[i]).bytes

/-- TABLE_READ (R169, R170). -/
def State.readTableCommand (s : State) : Answer :=
  match recordOf s.command.args[0] s.command.args[1] with
  | none => s.refuse .badArg
  | some name => ({ s with command := { s.command with staging := stagingOf (s.recordBytes name) } }).accept

/-- TABLE_READ: code 20h completes at CMD. -/
def execTableRead (s : State) : Host.Outcome State Fault Refusal :=
  s.occur (s.writingAt 0x14) (s.takeCommand 0x20 State.readTableCommand)

/-- The member of channel `i` in flight aborted by its disable: one DISABLED entry, then RECOVERING; the request ends
with its last member and otherwise goes on with the next position (R8, R83). -/
def State.abortDisabled (i : Fin 16) (s : State) : State :=
  match s.seq.current with
  | none => s
  | some r =>
    if s.seq.converter.inFlight ∧ s.seq.members[s.seq.position]? = some i then
      let t := s.produceAborted (s.memberDraft .disabled r i s.seq.position)
      if s.seq.position + 1 < s.seq.members.length then
        { t with seq := { t.seq with converter := .recovering, snapshot := none, position := s.seq.position + 1 } }
      else t.endRequest .recovering
    else s

/-- The pending requests of channel `i` removed: each single-channel IMMEDIATE one with its DISABLED entry and
IMM_DONE, oldest first, and the CADENCE one without (R7). -/
def State.withdrawChannel (i : Fin 16) (s : State) : State :=
  let mine (r : ImmRequest) : Bool := decide (r.target = .channel i)
  let t := { s with queues := { s.queues with
    immediate := s.queues.immediate.filter fun r => !mine r
    cadence := s.queues.cadence.filter fun r => decide (r.target ≠ i) } }
  (s.queues.immediate.filter mine).foldl (State.withdraw .disabled) t

/-- What an accepted channel write does to the channel's cadence, from the record before it, `old`, and the record
stored (R10, R11, R39). -/
def State.recadence (i : Fin 16) (old : ChannelRecord) (s : State) : State :=
  let new := s.channels[i]
  if !s.scheduler.accepts then s
  else if new.cadenced then
    if old.cadenced ∧ old.period = new.period ∧ old.offset = new.offset then s else s.arm i
  else if old.cadenced then s.disarm i
  else s

/-- An accepted write of the record `new` to channel `i`: stored whole, then the disable, the cadence and the deviation
evaluation, as the old and new records differ (R6 to R12). -/
def State.storeChannel (i : Fin 16) (new : ChannelRecord) (s : State) : State :=
  let old := s.channels[i]
  let t := { s with channels := s.channels.set i new }
  let u := if old.enabled && !new.enabled then (t.abortDisabled i).withdrawChannel i else t
  (u.recadence i old).evaluate i

/-- TABLE_WRITE to CHANNEL record `i` (R5, R6). -/
def State.writeChannel (i : Fin 16) (s : State) : Answer :=
  match parseChannel s.command.staging with
  | .error detail => s.refuseWith .refused detail
  | .ok new => (s.storeChannel i new).accept

/-- A trigger record with an edge selection other than OFF names group `g` (R14). -/
def State.triggerBound (g : Fin 4) (s : State) : Bool :=
  s.triggers.toList.any fun t => decide (t.record.edge ≠ .off ∧ t.record.group = g)

/-- A request for group `g` is pending in the IMMEDIATE or TRIGGERED queue, or current (R14). -/
def State.requestHeld (g : Fin 4) (s : State) : Bool :=
  s.queues.immediate.any (fun r => decide (r.target = .group g)) || pendingFor g s.queues.triggered
    || decide (s.seq.current.bind Request.group? = some g)

/-- TABLE_WRITE to GROUP record `g` (R14, R15). -/
def State.writeGroup (g : Fin 4) (s : State) : Answer :=
  match parseGroup s.command.staging with
  | .error detail => s.refuseWith .refused detail
  | .ok members =>
    if members.isEmpty && s.triggerBound g then s.refuseWith .inUse .triggerBound
    else if members.isEmpty && s.requestHeld g then s.refuseWith .inUse .requestHeld
    else ({ s with groups := s.groups.set g members }).accept

/-- TABLE_WRITE to TRIGGER record `i`: the record is stored; a running holdoff and the last level are kept (R46,
R47). -/
def State.writeTrigger (i : Fin 2) (s : State) : Answer :=
  match parseTrigger s.command.staging with
  | .error detail => s.refuseWith .refused detail
  | .ok record =>
    if record.edge ≠ .off ∧ (s.groups[record.group]).isEmpty then s.refuseWith .refused .groupUndefined
    else ({ s with triggers := s.triggers.set i { s.triggers[i] with record := record } }).accept

/-- The standby bank replaced whole (R59). -/
def Arbiter.storeStandby (b : PhaseBank) (a : Arbiter) : Arbiter :=
  match a.active with
  | .a => { a with bankB := b }
  | .b => { a with bankA := b }

/-- TABLE_WRITE to PHASE record 0 (R58, R59). -/
def State.writePhase (s : State) : Answer :=
  match parsePhase s.command.staging with
  | .error detail => s.refuseWith .refused detail
  | .ok bank => ({ s with arbiter := s.arbiter.storeStandby bank }).accept

/-- TABLE_WRITE (R169, R171): a record that is not there or is read-only is refused with BAD_ARG. -/
def State.writeTableCommand (s : State) : Answer :=
  match recordOf s.command.args[0] s.command.args[1] with
  | some (.channel i) => s.writeChannel i
  | some (.group g) => s.writeGroup g
  | some (.trigger i) => s.writeTrigger i
  | some .standbyBank => s.writePhase
  | some .activeBank | some (.calibration _) | some (.monitor _) | none => s.refuse .badArg

/-- TABLE_WRITE: code 21h completes at CMD. -/
def execTableWrite (s : State) : Host.Outcome State Fault Refusal :=
  s.occur (s.writingAt 0x14) (s.takeCommand 0x21 State.writeTableCommand)

/-- The roles of the banks exchanged, the pointer at 0 (R68). -/
def Arbiter.swap (a : Arbiter) : Arbiter :=
  { a with active := match a.active with | .a => .b | .b => .a
           pointer := 0 }

/-- The class has requests pending and does not appear below the standby length (R67). -/
def State.stranded (c : ServiceClass) (s : State) : Bool := s.queues.waiting c && !s.arbiter.standbyBank.appears c

/-- SWAP_BANKS, by the checks of R67 in their order. -/
def State.swapCommand (s : State) : Answer :=
  if s.stranded .immediate then s.refuseWith .refused .strandedImmediate
  else if s.stranded .triggered then s.refuseWith .refused .strandedTriggered
  else if s.stranded .cadence then s.refuseWith .refused .strandedCadence
  else if s.stranded .maintenance then s.refuseWith .refused .strandedMaintenance
  else ({ s with arbiter := s.arbiter.swap }).accept

/-- SWAP_BANKS: code 22h completes at CMD. -/
def execSwapBanks (s : State) : Host.Outcome State Fault Refusal :=
  s.occur (s.writingAt 0x14) (s.takeCommand 0x22 State.swapCommand)

end Sys2Proof.Machine
end

