-- ==== Sys2Proof/Machine/Time.lean ====
section
/-! DEFINITION. The tick, the cadence expiries and holdoff ends it brings about, and the trigger inputs (R35, R41,
R48 to R50). -/

namespace Sys2Proof.Machine

/-- The countdown of an armed channel decreased by 1; a disarmed one does not change (R41). -/
def Cadence.tick (c : Cadence) : Cadence :=
  if c.armed ∧ c.countdown ≠ 0 then { c with countdown := c.countdown - 1 } else c

/-- A holdoff count that is not 0 decreased by 1 (R50). -/
def TriggerInput.tick (t : TriggerInput) : TriggerInput := if t.count ≠ 0 then { t with count := t.count - 1 } else t

/-- A tick: the timebase advances, the countdowns and the holdoff counts decrease, and the next interval takes the
selected period (R35, R37, R41, R50). An expiry that an earlier tick made due and that has not been taken is taken
first, since it belongs to that tick: DESIGN CHOICE (log 5). -/
def State.tick (s : State) : State :=
  let t := s.takeExpiries
  { t with
    timebase := t.timebase + 1
    intervalSel := t.tickSel
    cadence := t.cadence.map Cadence.tick
    triggers := t.triggers.map TriggerInput.tick }

/-- One tick; the timebase is held at 0 through STARTING (R35). -/
def execTick (s : State) : Host.Outcome State Fault Refusal :=
  s.occur (decide (s.scheduler ≠ .starting)) s.tick

/-- The expiry of a channel whose countdown a tick has brought to 0; expiries of one tick are taken in increasing
channel order (R41, R42). -/
def execCadenceExpiry (channel : Fin 16) (s : State) : Host.Outcome State Fault Refusal :=
  s.occur (decide (s.nextExpiry = some channel)) (s.expire channel)

/-- The end of the holdoff of an input: it is out of holdoff from the tick that brought its count to 0, and nothing else
changes (R45, R50): DESIGN CHOICE (log 5). -/
def execHoldoffEnd (input : Fin 2) (s : State) : Host.Outcome State Fault Refusal :=
  s.occur ((s.triggers[input]).count == 0) s

/-- An edge to `level` matches the edge selection (R48). -/
def EdgeSelect.fits (level : Bool) : EdgeSelect → Bool
  | .off => false
  | .rising => level
  | .falling => !level
  | .both => true

/-- An edge to `level` on input `i` is accepted as a trigger (R49). -/
def State.edgeAccepted (i : Fin 2) (level : Bool) (s : State) : Bool :=
  (s.triggers[i]).record.edge.fits level && s.scheduler.accepts && (s.triggers[i]).count == 0

/-- The level of input `i` seen by the Trigger Unit (R48). -/
def State.seeLevel (i : Fin 2) (level : Bool) (s : State) : State :=
  { s with triggers := s.triggers.set i { s.triggers[i] with lastLevel := level } }

/-- Input `i` changes to `level`: the level is recorded, and an accepted edge starts the holdoff and hands on its
demand; while the part is held in reset only the pin changes (R48, R49). -/
def State.changeLevel (i : Fin 2) (level : Bool) (s : State) : State :=
  let t := { s with pins := { s.pins with trig := s.pins.trig.set i level } }
  if s.held then t
  else if (s.triggers[i]).lastLevel ≠ level ∧ s.edgeAccepted i level then (t.seeLevel i level).acceptTrigger i
  else t.seeLevel i level

/-- TRIG0 or TRIG1 changes level. -/
def execTriggerEdge (input : Fin 2) (level : Bool) (s : State) : Host.Outcome State Fault Refusal :=
  s.occur (decide (s.pins.trig[input] ≠ level)) (s.changeLevel input level)

end Sys2Proof.Machine
end

