-- ==== Sys2Proof/Machine/Window.lean ====
section
/-! DEFINITION. The register window as a read sees it: the byte at each of the 256 addresses (window map; R164, R174). -/

namespace Sys2Proof.Machine

/-- ARB_STATUS: the pointer in bits 4–0, the active bank in bit 7 (R72). -/
def Arbiter.status (a : Arbiter) : Byte :=
  BitVec.ofNat 8 (a.pointer % 32 + match a.active with | .a => 0 | .b => 128)

/-- Addresses 00h to 0Eh. -/
def State.statusBytes (s : State) : List Byte :=
  [Config.deviceId, Config.revision, BitVec.ofNat 8 (s.scheduler.code + 16 * s.seq.converter.code),
    if s.refCondition then 0x01 else 0x00,
    BitVec.ofNat 8 s.queues.immediate.length, BitVec.ofNat 8 s.queues.triggered.length,
    BitVec.ofNat 8 s.queues.cadence.length, BitVec.ofNat 8 s.queues.maintenance.length,
    s.arbiter.status, BitVec.ofNat 8 s.arbiter.activeBank.length,
    wordByte s.timebase 0, wordByte s.timebase 1, wordByte s.timebase 2, wordByte s.timebase 3,
    s.tickSel.zeroExtend 8]

/-- Addresses 10h to 17h; CMD reads 00h. -/
def CommandBlock.bytes (c : CommandBlock) : List Byte :=
  [c.args[0], c.args[1], c.args[2], c.args[3], 0x00, c.result.code, c.detail.code, c.echo]

/-- DEVIATION_SET, the byte of channels `8 * k` to `8 * k + 7` (R129). -/
def State.deviationByte (k : Nat) (s : State) : Byte :=
  let m (i : Nat) : Bool := (s.monitors[8 * k + i]?.map MonitorRecord.inSet).getD false
  bitsByte (m 0) (m 1) (m 2) (m 3) (m 4) (m 5) (m 6) (m 7)

/-- Addresses 18h to 1Fh; 1Dh is unassigned. -/
def State.alertBytes (s : State) : List Byte :=
  [s.flagsLow, s.flagsHigh, s.alerts.enableLow, s.alerts.enableHigh.zeroExtend 8,
    if s.alerts.master then 0x01 else 0x00, 0x00, s.deviationByte 0, s.deviationByte 1]

/-- Addresses 20h to 26h (R116). -/
def Ring.bytes (r : Ring) : List Byte :=
  [BitVec.ofNat 8 r.entries.length, BitVec.ofNat 8 r.watermark, r.policy.code, lowByte r.lossCount,
    highByte r.lossCount, lowByte r.nextSeq, highByte r.nextSeq]

/-- The tag an entry carries (R108). -/
def Origin.tag? : Origin → Option Byte
  | .immediate tag => some tag
  | _ => none

/-- The coalesced count an entry carries (R108). -/
def Origin.count? : Origin → Option (BitVec 4)
  | .immediate _ => none
  | .triggered n => some n
  | .cadence n => some n
  | .maintenance n => some n

/-- The value an entry carries (R108, R109). -/
def EntryKind.value? : EntryKind → Option Word16
  | .sample v _ => some v
  | .calibrationDone v => some v
  | _ => none

/-- The byte at 37h: sample flags, reason or outcome (ring head window). -/
def EntryKind.detailByte : EntryKind → Byte
  | .sample _ f => bitsByte f.clip f.uncal f.dev false false false false false
  | .aborted reason => reason.code
  | .calibrationDone _ => 0x01
  | .calibrationFail => 0x02

/-- The presence byte at 31h (R108, R109). -/
def Entry.presence (e : Entry) : Byte :=
  let k := e.draft.kind
  bitsByte e.draft.origin.tag?.isSome e.draft.place.isSome k.value?.isSome
    (match k with | .sample _ _ => true | _ => false)
    (match k with | .aborted _ => true | _ => false)
    (match k with | .calibrationDone _ => true | .calibrationFail => true | _ => false)
    e.draft.origin.count?.isSome e.lossBefore.isSome

/-- The byte at 34h: a channel, or with bit 7 a calibration target. -/
def EntryTarget.byte : EntryTarget → Byte
  | .channel c => BitVec.ofNat 8 c.val
  | .calibration t => BitVec.ofNat 8 (128 + (match t.kind with | .offset => 0 | .gain => 16) + t.gain.val)

/-- The sixteen bytes of the head window for an entry; an absent field reads 00h throughout (R109, R115). -/
def Entry.bytes (e : Entry) : List Byte :=
  let d := e.draft
  let v := d.kind.value?.getD 0
  [BitVec.ofNat 8 (1 + 2 * d.kind.code + 16 * d.origin.classCode), e.presence, lowByte e.seq, highByte e.seq,
    d.target.byte, d.origin.tag?.getD 0,
    (d.place.map fun p => BitVec.ofNat 8 (16 * p.group.val + p.position % 8)).getD 0,
    d.kind.detailByte, (d.origin.count?.getD 0).zeroExtend 8, e.lossBefore.getD 0,
    lowByte v, highByte v,
    wordByte d.timestamp 0, wordByte d.timestamp 1, wordByte d.timestamp 2, wordByte d.timestamp 3]

/-- The head window, addresses 30h to 3Fh; all 00h while the ring is empty (R115). -/
def Ring.headBytes (r : Ring) : List Byte := (r.entries.head?.map Entry.bytes).getD []

/-- The latest-value window: two bytes of channel `k / 2`, 8000h when its latest value is absent (R130). -/
def State.latestByte (k : Nat) (s : State) : Byte :=
  let v := ((s.monitors[k / 2]?.bind MonitorRecord.latest).map Latest.value).getD 0x8000
  if k % 2 = 0 then lowByte v else highByte v

/-- The byte of the window at address `a`; an address the map does not list reads 00h (R164, R174). -/
def State.windowByte (a : Byte) (s : State) : Byte :=
  let n := a.toNat
  if n < 0x10 then s.statusBytes.getD n 0
  else if n < 0x18 then s.command.bytes.getD (n - 0x10) 0
  else if n < 0x20 then s.alertBytes.getD (n - 0x18) 0
  else if n < 0x30 then s.ring.bytes.getD (n - 0x20) 0
  else if n < 0x40 then s.ring.headBytes.getD (n - 0x30) 0
  else if n < 0x68 then s.command.staging.toList.getD (n - 0x40) 0
  else if n < 0x80 then 0
  else if n < 0xA0 then s.latestByte (n - 0x80)
  else 0

/-- The snapshot of the whole window, with the latest values that stood in it (R131, R164). -/
def State.takeSnapshot (s : State) : ReadSnapshot :=
  { window := Vector.ofFn fun i => s.windowByte (BitVec.ofFin i)
    latest := Vector.ofFn fun i => (s.monitors[i]).latest.map Latest.value }

/-- The byte that SDO shows while it is driven: the snapshot byte at the pointer during the data bytes of a read, and 0
during the header and the address, in a write and in an ignored or abandoned transaction (R160, R164). -/
def Port.shown (p : Port) : Byte :=
  if p.phase = .data ∧ p.direction = .read then
    (p.snapshot.map fun w => w.window[p.pointer.toNat]'(p.pointer.isLt)).getD 0
  else 0

/-- What SDO does: high impedance while CSN is high and while the part is held in reset, and driven with a byte while CSN
is low (R146, R160). -/
def State.sdo (s : State) : Option Byte := if s.port.csnLow && !s.held then some s.port.shown else none

/-- The level that the falling edge of SCLK before the next sampling edge puts on SDO: the bits of the byte, most
significant first (R160). -/
def State.sdoLevel (s : State) : Option Bool := s.sdo.map fun v => v.getMsbD s.port.bits.length

/-- The acknowledged set: the channels both of whose bytes were clocked out completely (R165). -/
def Port.acknowledged (p : Port) : List (Fin 16) :=
  channelOrder.filter fun c => p.clocked[2 * c.val]'(by omega) && p.clocked[2 * c.val + 1]'(by omega)

end Sys2Proof.Machine
end

