-- ==== Sys2Proof/Machine/Transactions.lean ====
section
/-! DEFINITION. The frame of an SPI transaction: CSN, the header, the address, the data bytes of a read, and the
acknowledgement at its end (R130 to R132, R160 to R166). -/

namespace Sys2Proof.Machine

/-- CSN falls: a transaction begins and the mode is taken from SCLK; a part held in reset takes no part (R146,
R160). -/
def State.csnFalls (sclkHigh : Bool) (s : State) : State :=
  if s.held then { s with port := { s.port with csnLow := true } }
  else
    { s with port := { s.port with
        csnLow := true, phase := .header, mode := if sclkHigh then .mode3 else .mode0, bits := [] } }

/-- A falling edge of CSN. -/
def execCsnFall (sclkHigh : Bool) (s : State) : Host.Outcome State Fault Refusal :=
  s.occur (!s.port.csnLow) (s.csnFalls sclkHigh)

/-- The header decided: 00h a write, 80h a read, C0h a read with the modifier, any other value an ignored transaction;
the acknowledged set begins empty (R161, R165). -/
def Port.takeHeader (v : Byte) (p : Port) : Port :=
  let q := { p with clocked := Vector.replicate 32 false }
  if v = 0x00 then { q with phase := .address, direction := .write, acknowledge := false }
  else if v = 0x80 then { q with phase := .address, direction := .read, acknowledge := false }
  else if v = 0xC0 then { q with phase := .address, direction := .read, acknowledge := true }
  else { q with phase := .ignored, acknowledge := false }

/-- The header byte completes. -/
def execHeaderByte (value : Byte) (s : State) : Host.Outcome State Fault Refusal :=
  s.occur (decide (s.port.phase = .header)) { s with port := s.port.takeHeader value }

/-- The address byte of a write completes: it sets the pointer (R162). -/
def execWriteAddressByte (address : Byte) (s : State) : Host.Outcome State Fault Refusal :=
  s.occur (decide (s.port.phase = .address ∧ s.port.direction = .write))
    { s with port := { s.port with phase := .data, pointer := address } }

/-- The address byte of a read completes: it sets the pointer, and the snapshot of the window is taken (R162, R164). -/
def execReadSnapshot (address : Byte) (s : State) : Host.Outcome State Fault Refusal :=
  s.occur (decide (s.port.phase = .address ∧ s.port.direction = .read))
    { s with port := { s.port with phase := .data, pointer := address, snapshot := some s.takeSnapshot } }

/-- A data byte of a read clocked out completely: under the modifier a byte of the latest-value window is marked, and
the pointer advances (R162, R165). -/
def Port.clockOut (p : Port) : Port :=
  let n := p.pointer.toNat
  { p with
    clocked := if p.acknowledge ∧ 0x80 ≤ n ∧ n < 0xA0 then p.clocked.setIfInBounds (n - 0x80) true else p.clocked
    pointer := p.pointer + 1 }

/-- A data byte of a read is clocked out completely. -/
def execReadDataByte (s : State) : Host.Outcome State Fault Refusal :=
  s.occur (decide (s.port.phase = .data ∧ s.port.direction = .read)) { s with port := s.port.clockOut }

/-- The transaction in progress is a read with the acknowledge modifier (R131, R161). -/
def Port.acknowledging (p : Port) : Bool :=
  p.acknowledge && decide (p.direction = .read ∧ (p.phase = .address ∨ p.phase = .data))

/-- CSN rises: the transaction ends, its partial byte and its snapshot are discarded (R160, R164). -/
def State.csnRises (s : State) : State := { s with port := { s.port.idle with csnLow := false } }

/-- CSN rises at the end of a transaction without the modifier. The bits of a partial byte have no effect (R160).
DESIGN CHOICE: the row stands for the edge at any number of bits (log 13). -/
def execCsnRise (_partialBits : Fin 8) (s : State) : Host.Outcome State Fault Refusal :=
  s.occur (s.port.csnLow && !s.port.acknowledging) s.csnRises

/-- The snapshot values of the acknowledged channels become their references, and each condition is evaluated with the
latest value as it stands; a channel whose value was absent in the snapshot is left as it was (R131). -/
def State.acknowledge (s : State) : State :=
  match s.port.snapshot with
  | none => s
  | some w =>
    s.port.acknowledged.foldl
      (fun t c => match w.latest[c] with | some v => t.putReference c (some v) | none => t) s

/-- CSN rises at the end of a read with the modifier. DEDUCED: also of one that ends before its address byte, which then
acknowledges nothing (log 15). The bits of a partial byte have no effect (R160, R165). -/
def execAcknowledgingRead (_partialBits : Fin 8) (s : State) : Host.Outcome State Fault Refusal :=
  s.occur (s.port.csnLow && s.port.acknowledging) s.acknowledge.csnRises

end Sys2Proof.Machine
end

