-- ==== Sys2Proof/Machine/Dispatch.lean ====
section
/-! DEFINITION. The effect of each operation and event on everything but the queue, one arm per row. -/

namespace Sys2Proof.Machine

def exec (i : Instr) (s : State) : Host.Outcome State Fault Refusal :=
  match i with
  | .start => Sys2Proof.Machine.execStart s
  | .pause => Sys2Proof.Machine.execPause s
  | .resume => Sys2Proof.Machine.execResume s
  | .stop => Sys2Proof.Machine.execStop s
  | .abortCurrent => Sys2Proof.Machine.execAbortCurrent s
  | .post => Sys2Proof.Machine.execPost s
  | .softTrigger => Sys2Proof.Machine.execSoftTrigger s
  | .calibrate => Sys2Proof.Machine.execCalibrate s
  | .tableRead => Sys2Proof.Machine.execTableRead s
  | .tableWrite => Sys2Proof.Machine.execTableWrite s
  | .swapBanks => Sys2Proof.Machine.execSwapBanks s
  | .ringRelease => Sys2Proof.Machine.execRingRelease s
  | .ringClear => Sys2Proof.Machine.execRingClear s
  | .ringConfig => Sys2Proof.Machine.execRingConfig s
  | .setReference => Sys2Proof.Machine.execSetReference s
  | .setTick => Sys2Proof.Machine.execSetTick s
  | .deviceReset => Sys2Proof.Machine.execDeviceReset s
  | .unknownCommandCode code => Sys2Proof.Machine.execUnknownCommandCode code s
  | .clearLatchedFlag value => Sys2Proof.Machine.execClearLatchedFlag value s
  | .refFaultClear value => Sys2Proof.Machine.execRefFaultClear value s
  | .alertEnableWrite value => Sys2Proof.Machine.execAlertEnableWrite value s
  | .alertMasterWrite value => Sys2Proof.Machine.execAlertMasterWrite value s
  | .deviationSetClearRequest value => Sys2Proof.Machine.execDeviationSetClearRequest value s
  | .registerWrite value => Sys2Proof.Machine.execRegisterWrite value s
  | .readSnapshot address => Sys2Proof.Machine.execReadSnapshot address s
  | .acknowledgingRead partialBits => Sys2Proof.Machine.execAcknowledgingRead partialBits s
  | .rstnLow => Sys2Proof.Machine.execRstnLow s
  | .rstnRise => Sys2Proof.Machine.execRstnRise s
  | .por => Sys2Proof.Machine.execPor s
  | .supplyEstablished => Sys2Proof.Machine.execSupplyEstablished s
  | .endOfStarting => Sys2Proof.Machine.execEndOfStarting s
  | .tick => Sys2Proof.Machine.execTick s
  | .cadenceExpiry channel => Sys2Proof.Machine.execCadenceExpiry channel s
  | .holdoffEnd input => Sys2Proof.Machine.execHoldoffEnd input s
  | .triggerEdge input level => Sys2Proof.Machine.execTriggerEdge input level s
  | .referenceOnset => Sys2Proof.Machine.execReferenceOnset s
  | .referenceRecovery => Sys2Proof.Machine.execReferenceRecovery s
  | .endOfSettling => Sys2Proof.Machine.execEndOfSettling s
  | .conversionCompletion raw => Sys2Proof.Machine.execConversionCompletion raw s
  | .calibrationCompletion raw => Sys2Proof.Machine.execCalibrationCompletion raw s
  | .endOfRecovery => Sys2Proof.Machine.execEndOfRecovery s
  | .csnFall sclkHigh => Sys2Proof.Machine.execCsnFall sclkHigh s
  | .headerByte value => Sys2Proof.Machine.execHeaderByte value s
  | .writeAddressByte address => Sys2Proof.Machine.execWriteAddressByte address s
  | .readDataByte => Sys2Proof.Machine.execReadDataByte s
  | .csnRise partialBits => Sys2Proof.Machine.execCsnRise partialBits s

end Sys2Proof.Machine
end

