-- ==== Sys2Proof/Machine/Step.lean ====
section
/-! DEFINITION. One step: the operation or event at the front of the queue is taken and has its effect whole. -/

namespace Sys2Proof.Machine

/-- One step. DESIGN CHOICE: rows come from outside in the order in which they are taken (logs 8 and 9), and on an empty
queue nothing happens (log 7). -/
def step (s : State) : Host.Outcome State Fault Refusal :=
  match s.pending with
  | [] => .next s
  | c :: rest => exec c { s with pending := rest }

/-- `s` with the row that a table word spells put at the front of its queue, unchanged where the word spells none. -/
def State.withFetchWord (s : State) (nbits w : Nat) : State :=
  match decodeTableWord nbits w with
  | some c => { s with pending := c :: s.pending }
  | none => s

end Sys2Proof.Machine
end

