-- ==== Sys2Proof/Machine/Spi.lean ====
section
/-! DEFINITION. The edges of SCLK within a byte of a transaction: what a sampling edge does, and the row that the eighth one
of a byte is (R160 to R163). The table has no row for an edge, so no step takes one (log 13). -/

namespace Sys2Proof.Machine

/-- The byte whose bits these are, most significant first (R160). -/
def byteOfBits (bits : List Bool) : Byte := BitVec.ofNat 8 (bits.foldl (fun n b => 2 * n + b.toNat) 0)

/-- The row that a byte completed on SDI is, by where the transaction stands; none in an ignored or abandoned one
(R161 to R163, R165). -/
def Port.rowOfByte (v : Byte) (p : Port) : Option Instr :=
  match p.phase, p.direction with
  | .header, _ => some (.headerByte v)
  | .address, .write => some (.writeAddressByte v)
  | .address, .read => some (.readSnapshot v)
  | .data, .write => some (rowOfDataByte p.pointer v)
  | .data, .read => some .readDataByte
  | .waiting, _ => none
  | .ignored, _ => none

/-- A rising edge of SCLK with SDI at this level: while CSN is low and the part is out of reset, the bit is counted, and
at the eighth one the byte is complete and its row is taken (R146, R160). In either mode SDI is sampled at the rising
edge. -/
def State.sampleBit (sdi : Bool) (s : State) : Host.Outcome State Fault Refusal :=
  if s.port.csnLow && !s.held then
    let bits := s.port.bits ++ [sdi]
    if bits.length < 8 then .next { s with port := { s.port with bits := bits } }
    else
      let t : State := { s with port := { s.port with bits := [] } }
      match t.port.rowOfByte (byteOfBits bits) with
      | some c => exec c t
      | none => .next t
  else .next s

end Sys2Proof.Machine
end

