-- ==== Sys2Proof/Machine/Timing.lean ====
section
/-! DEFINITION. The durations the manual fixes, as functions of the state. No operation or event carries real time, so
nothing here drives a step: DESIGN CHOICE; log 4 says what is left out. -/

namespace Sys2Proof.Machine

/-- The tick period of a selection, in µs (R36). -/
def tickMicros (selection : BitVec 2) : Nat := 10 ^ selection.toNat

/-- The length of the tick interval in progress, in µs: the period in force when the interval began (R37). -/
def State.intervalMicros (s : State) : Nat := tickMicros s.intervalSel

/-- How long the present converter state lasts, in units of 0.5 µs; none while it lasts until left (R3, R74, R77,
R79, R81). -/
def Sequencer.lastsHalfMicros (q : Sequencer) : Option Nat :=
  match q.converter with
  | .settling => q.snapshot.map fun m => m.settling.toNat
  | .converting => some Config.conversionHalfMicros
  | .recovering => some Config.recoveryHalfMicros
  | .calibrating =>
    match q.current with
    | some (.maintenance { target := { kind := .offset, .. }, .. }) => some Config.offsetCalHalfMicros
    | some (.maintenance { target := { kind := .gain, .. }, .. }) => some Config.gainCalHalfMicros
    | _ => none
  | .idle | .halted => none

end Sys2Proof.Machine
end

