-- ==== Sys2Proof/Safety.lean ====
section
/-! DEFINITION. What the claims speak of: when an operation or event can occur, the state a command leaves with its
answer, and the invariants of the part. -/

namespace Sys2Proof.Machine

/-! ### When a row can occur -/

/-- The state lets the operation or event occur; where it does not, `exec` changes nothing (log 1). -/
def occurs (i : Instr) (s : State) : Bool :=
  match i with
  | .start | .pause | .resume | .stop | .abortCurrent | .post | .softTrigger | .calibrate | .tableRead | .tableWrite
  | .swapBanks | .ringRelease | .ringClear | .ringConfig | .setReference | .setTick | .deviceReset => s.writingAt 0x14
  | .unknownCommandCode code => s.writingAt 0x14 && (Instr.unknownCommandCode code).wellFormed
  | .clearLatchedFlag _ => s.writingAt 0x18 || s.writingAt 0x19
  | .refFaultClear value => s.writingAt 0x19 && (Instr.refFaultClear value).wellFormed
  | .alertEnableWrite _ => s.writingAt 0x1A || s.writingAt 0x1B
  | .alertMasterWrite _ => s.writingAt 0x1C
  | .deviationSetClearRequest _ => s.writingAt 0x1E || s.writingAt 0x1F
  | .registerWrite _ => s.writing && !ownRowAddresses.contains s.port.pointer
  | .readSnapshot _ => decide (s.port.phase = .address ∧ s.port.direction = .read)
  | .acknowledgingRead _ => s.port.csnLow && s.port.acknowledging
  | .rstnLow | .por | .referenceOnset | .referenceRecovery => true
  | .rstnRise => s.pins.rstnLow
  | .supplyEstablished => s.pins.supplyDown
  | .endOfStarting => decide (s.scheduler = .starting) && !s.held
  | .tick => decide (s.scheduler ≠ .starting)
  | .cadenceExpiry channel => decide (s.nextExpiry = some channel)
  | .holdoffEnd input => (s.triggers[input]).count == 0
  | .triggerEdge input level => decide (s.pins.trig[input] ≠ level)
  | .endOfSettling => decide (s.seq.converter = .settling)
  | .conversionCompletion _ => decide (s.seq.converter = .converting) && s.seq.inFlight.isSome
  | .calibrationCompletion _ =>
    decide (s.seq.converter = .calibrating) && (match s.seq.current with | some (.maintenance _) => true | _ => false)
  | .endOfRecovery => decide (s.seq.converter = .recovering)
  | .csnFall _ => !s.port.csnLow
  | .headerByte _ => decide (s.port.phase = .header)
  | .writeAddressByte _ => decide (s.port.phase = .address ∧ s.port.direction = .write)
  | .readDataByte => decide (s.port.phase = .data ∧ s.port.direction = .read)
  | .csnRise _ => s.port.csnLow && !s.port.acknowledging

/-- The rows that change a level outside: the reset pin, the supply, the reference and the trigger inputs. -/
def drivesPins : Instr → Bool
  | .rstnLow | .rstnRise | .por | .supplyEstablished | .triggerEdge _ _ | .referenceOnset | .referenceRecovery => true
  | _ => false

/-! ### What an operation leaves -/

/-- The next byte is a data byte of a write to address `a` (R163). -/
abbrev State.inWrite (a : Byte) (s : State) : Prop :=
  s.port.phase = .data ∧ s.port.direction = .write ∧ s.port.pointer = a

/-- The next byte is a data byte of a write to address `a`, and the scheduler has left STARTING, so that the byte takes
effect (R163, R166). -/
abbrev State.takesByteAt (a : Byte) (s : State) : Prop := s.inWrite a ∧ s.scheduler ≠ .starting

/-- The latched flags with those for which `f` says so set as well. -/
def Latched.also (f : Flag → Bool) (l : Latched) : Latched :=
  { ringLoss := l.ringLoss || f .ringLoss
    immDone := l.immDone || f .immDone
    cadOverrun := l.cadOverrun || f .cadOverrun
    trgOverrun := l.trgOverrun || f .trgOverrun
    calDone := l.calDone || f .calDone
    calFail := l.calFail || f .calFail
    refFault := l.refFault || f .refFault
    aborted := l.aborted || f .aborted
    cmdError := l.cmdError || f .cmdError
    runChange := l.runChange || f .runChange }

/-- The alert unit with those latched flags set as well for which `f` says so. -/
def Alerts.also (f : Flag → Bool) (a : Alerts) : Alerts := { a with flags := a.flags.also f }

/-- The port past a completed data byte (R162). -/
def Port.past (p : Port) : Port := { p with pointer := p.pointer + 1 }

/-- The state a command leaves apart from its own effect: the pointer past CMD, and the result, the detail and the
echo, with CMD_ERROR set for a result other than OK (R153, R162, R167). -/
def State.answered (code : Byte) (r : ResultCode) (d : DetailCode) (s : State) : State :=
  { s with
    port := s.port.past
    command := { s.command with result := r, detail := d, echo := code }
    alerts := s.alerts.also fun | .cmdError => decide (r ≠ .ok) | _ => false }

/-- The ring after several entries are handed to it in order. -/
def Ring.handAll (ds : List Draft) (r : Ring) : Ring := ds.foldl (fun r d => r.hand d) r

/-- Handing these entries to the ring loses one: it is full before the last of them (R112). -/
def Ring.loses (ds : List Draft) (r : Ring) : Bool :=
  !ds.isEmpty && decide (Config.ringCapacity < r.entries.length + ds.length)

/-- The sequencer with its request gone and the converter at `k` (R75, R78). -/
def Sequencer.ended (k : Converter) (q : Sequencer) : Sequencer :=
  { q with converter := k, current := none, captured := none, snapshot := none }

/-- The current request is IMMEDIATE. -/
def Sequencer.holdsImmediate (q : Sequencer) : Bool := q.current.any Request.isImmediate

/-- The sequencer with the member of channel record `r`, at position `p`, started (R77). -/
def Sequencer.settlingOn (r : ChannelRecord) (p : Nat) (q : Sequencer) : Sequencer :=
  { q with
    converter := .settling
    position := p
    snapshot := some { positive := r.positive, negative := r.negative, gain := r.gain, settling := r.settling } }

/-- The scheduler after the current request ends, where `ended` says it does (R141). -/
def Scheduler.afterEnd (ended : Bool) (s : Scheduler) : Scheduler := if ended && s == .pausing then .paused else s

/-- The monitor records with channel `c` put in the deviation set if its condition holds in `s` (R127). -/
def State.evaluated (c : Fin 16) (s : State) : Vector MonitorRecord 16 :=
  if s.deviates c then s.monitors.set c { s.monitors[c] with inSet := true } else s.monitors

/-- The queue of a merging class after a demand for this target that is accepted for posting (R25). -/
def demanded {α : Type} [DecidableEq α] (target : α) (q : List (Merged α)) : List (Merged α) :=
  if pendingFor target q then mergeInto target q else q ++ [Merged.fresh target]

/-- Checks in an order, each a failing condition with its detail, decide an answer: the first that fails refuses with its
detail, and where none fails a record is accepted of which `stored` holds (R5, R14, R46, R58). -/
def ChecksDecide {α : Type} (checks : List (Bool × DetailCode)) (answer : Except DetailCode α) (stored : α → Prop) :
    Prop :=
  match checks.find? (·.1) with
  | some (_, d) => answer = .error d
  | none => ∃ r, answer = .ok r ∧ stored r

/-! ### Invariants -/

/-- The limits of R5 on a stored channel record (R1, R5). -/
abbrev ChannelRecord.Valid (r : ChannelRecord) : Prop :=
  r.settling ≠ 0 ∧ r.negative ≠ .ain r.positive ∧ (r.period ≠ 0 → r.offset.toNat < r.period.toNat)
    ∧ r.band.toNat ≤ Config.bandLimit

/-- Every channel record and every group list is one that its checks accept (R5, R13, R14). -/
abbrev State.TablesValid (s : State) : Prop :=
  (∀ c : Fin 16, (s.channels[c]).Valid) ∧ ∀ g : Fin 4, (s.groups[g]).length ≤ 8 ∧ (s.groups[g]).Nodup

/-- A bank that R58 accepts. -/
abbrev PhaseBank.Valid (b : PhaseBank) : Prop := 1 ≤ b.length ∧ b.length ≤ 32 ∧ b.namesClass = true

/-- Both banks are valid, and the pointer names a slot in use of the active bank (R55, R58). -/
abbrev State.BanksValid (s : State) : Prop :=
  s.arbiter.bankA.Valid ∧ s.arbiter.bankB.Valid ∧ s.arbiter.pointer < s.arbiter.activeBank.length

/-- At most 8 IMMEDIATE requests, and at most one request for a target in each other queue (R19, R20). -/
abbrev State.QueuesValid (s : State) : Prop :=
  s.queues.immediate.length ≤ Config.immediateCapacity ∧ (s.queues.triggered.map (·.target)).Nodup
    ∧ (s.queues.cadence.map (·.target)).Nodup ∧ (s.queues.maintenance.map (·.target)).Nodup

/-- The class of every queue that is not empty appears among the active phases (R57). -/
abbrev State.WaitingActive (s : State) : Prop :=
  (s.queues.waiting .immediate → s.active .immediate) ∧ (s.queues.waiting .triggered → s.active .triggered)
    ∧ (s.queues.waiting .cadence → s.active .cadence) ∧ (s.queues.waiting .maintenance → s.active .maintenance)

/-- A group that a trigger record is bound to, or that a pending or current request names, is defined (R14, R46). -/
abbrev State.NamedGroupsDefined (s : State) : Prop :=
  ∀ g : Fin 4, (s.triggerBound g || s.requestHeld g) = true → s.groups[g] ≠ []

/-- A channel is armed exactly while the scheduler accepts demands, the channel is enabled and its period is not 0; a
disarmed channel's countdown is 0 (R39, R43). -/
abbrev State.CadenceFollowsTable (s : State) : Prop :=
  ∀ c : Fin 16, (s.cadence[c]).armed = (s.scheduler.accepts && (s.channels[c]).cadenced)
    ∧ ((s.cadence[c]).armed = false → (s.cadence[c]).countdown = 0)

/-- At most 64 entries, their sequence numbers running without gap to the next sequence number; the watermark is 1 to
64; a loss-before that is present is not 0 (R107, R108, R110). -/
abbrev Ring.Form (r : Ring) : Prop :=
  r.entries.length ≤ Config.ringCapacity ∧ 1 ≤ r.watermark ∧ r.watermark ≤ Config.ringCapacity
    ∧ (∀ e ∈ r.entries, e.lossBefore ≠ some 0)
    ∧ ∀ k : Nat, (h : k < r.entries.length) → r.entries[k].seq = r.nextSeq - BitVec.ofNat 16 (r.entries.length - k)

/-- The constants lie in their ranges; NOMINAL constants are the nominal ones and carry no time; a CALIBRATED record
carries one (R94 to R96). -/
abbrev CalRecord.Valid (r : CalRecord) : Prop :=
  (-2048 ≤ r.offset.toInt ∧ r.offset.toInt ≤ 2048) ∧ (29491 ≤ r.gain.toNat ∧ r.gain.toNat ≤ 36045)
    ∧ (r.validity = .nominal → r = CalRecord.nominal) ∧ (r.validity = .calibrated → r.calibratedAt.isSome)

/-- Every calibration record is valid. -/
abbrev State.CalibrationValid (s : State) : Prop := ∀ g : Fin 4, (s.calibration[g]).Valid

/-- Every channel whose deviation condition holds is in the deviation set (R127). -/
abbrev State.DeviationReported (s : State) : Prop :=
  ∀ c : Fin 16, s.deviates c = true → (s.monitors[c]).inSet = true

/-- The request is a calibration. -/
def Request.isCalibration : Request → Bool
  | .maintenance _ => true
  | _ => false

/-- What the converter state says of the sequencer's other items (R73 to R75, R77, R79, R81). -/
abbrev Sequencer.Sound (q : Sequencer) : Prop :=
  (q.converter = .idle ∨ q.converter = .halted → q.current = none)
    ∧ (q.converter = .settling ∨ q.converter = .converting → q.position < q.members.length ∧ q.snapshot.isSome)
    ∧ (q.converter = .calibrating → (q.current.any Request.isCalibration) = true)
    ∧ (q.converter = .recovering → q.current.isSome →
      q.position < q.members.length ∧ (q.current.bind Request.group?).isSome)
    ∧ (q.snapshot.isSome → q.converter = .settling ∨ q.converter = .converting)
    ∧ (q.haltPending = true → q.converter = .recovering)

/-- A captured list is present exactly for a group request, and holds 1 to 8 channels (R73, R75). -/
abbrev Sequencer.Captured (q : Sequencer) : Prop :=
  q.captured.isSome = (q.current.bind Request.group?).isSome
    ∧ ∀ l ∈ q.captured, l ≠ [] ∧ l.length ≤ 8

/-- STARTING and STOPPED have empty queues and no current request; PAUSING has one (R136, R141). -/
abbrev State.SchedulerSound (s : State) : Prop :=
  (s.scheduler.accepts = false → s.queues = .none ∧ s.seq.current = none)
    ∧ (s.scheduler = .pausing → s.seq.current.isSome)
    ∧ (s.scheduler = .starting → s.seq.converter = .idle ∧ s.refCondition = false)

/-- While the converter is HALTED or a halt is pending, REF_FAULT is set and no request is current; while the reference
condition is present, one of the two holds (R85, R90, R91). -/
abbrev State.HaltSound (s : State) : Prop :=
  ((s.seq.converter = .halted ∨ s.seq.haltPending = true) → s.alerts.flags.refFault = true ∧ s.seq.current = none)
    ∧ (s.refCondition = true → s.seq.converter = .halted ∨ s.seq.haltPending = true)

/-- RUNNING with the converter IDLE leaves no request waiting (R68, R70). -/
abbrev State.NoneWaitsIdle (s : State) : Prop :=
  s.scheduler = .running → s.seq.converter = .idle → s.queues = .none

/-- The outcome value of a calibration of this kind lies in its range (R97, R98, R108). -/
def CalKind.inRange (kind : CalKind) (v : Word16) : Bool :=
  match kind with
  | .offset => decide (-2048 ≤ v.toInt ∧ v.toInt ≤ 2048)
  | .gain => decide (29491 ≤ v.toNat ∧ v.toNat ≤ 36045)

/-- The kind is one that an entry with a channel target can have (R108). -/
def EntryKind.ofChannel : EntryKind → Bool
  | .sample _ _ | .aborted _ => true
  | .calibrationDone _ | .calibrationFail => false

/-- The kind is one that an entry with this calibration target can have (R84, R85, R108). -/
def EntryKind.ofCalibration (t : CalTarget) : EntryKind → Bool
  | .sample _ _ => false
  | .aborted reason => decide (reason = .stop ∨ reason = .reference)
  | .calibrationDone v => t.kind.inRange v
  | .calibrationFail => true

/-- A draft has the fields its class, kind and request give it, within their ranges (R108, R109). -/
def Draft.valid (d : Draft) : Bool :=
  d.place.all (fun p => decide (p.position ≤ 7)) &&
  match d.origin, d.target with
  | .immediate _, .channel _ => d.kind.ofChannel
  | .triggered _, .channel _ => d.place.isSome && d.kind.ofChannel
  | .cadence _, .channel _ => d.place.isNone && d.kind.ofChannel
  | .maintenance _, .calibration t => d.place.isNone && d.kind.ofCalibration t
  | _, _ => false

/-- Every entry held is valid. -/
abbrev State.EntriesValid (s : State) : Prop := ∀ e ∈ s.ring.entries, e.draft.valid = true

/-- The invariants that bind the queues, the Arbiter, the sequencer, the reference and the scheduler together. -/
abbrev State.ScheduleSound (s : State) : Prop :=
  s.TablesValid ∧ s.BanksValid ∧ s.QueuesValid ∧ s.WaitingActive ∧ s.NamedGroupsDefined ∧ s.seq.Sound ∧ s.seq.Captured
    ∧ s.SchedulerSound ∧ s.HaltSound ∧ s.NoneWaitsIdle

end Sys2Proof.Machine
end

