-- ==== Sys2Proof/Certificates/Slice0/Obligations.lean ====
section
/-! DEFINITION. The statements for the provers. -/

section Statements

open Sys2Proof Sys2Proof.Machine

/-! ### The step, the rows and reset -/

/-- A step runs the row at the front of the queue on the state with the queue's rest, and idles on an empty queue. The
idling is the model's choice (log 7). -/
def Obligations.StepTakesTheFrontRow : Prop :=
  ∀ (c : Instr) (rest : List Instr) (s : State),
    step { s with pending := c :: rest } = exec c { s with pending := rest }
      ∧ (s.pending = [] → step s = .next s)

/-- Every row answers a next state, whatever the state: the manual names no condition that stops the part. The queue is
left to the step, only the rows that drive a pin change a pin, and a row that the state rules out changes nothing: the
last is the model's choice (log 1). -/
def Obligations.EveryRowAnswersANextState : Prop :=
  ∀ (c : Instr) (s : State), ∃ t, exec c s = .next t ∧ t.pending = s.pending ∧ (drivesPins c = false → t.pins = s.pins)
    ∧ (occurs c s = false → t = s)

/-- A data byte of a write is one row by its address and value, and that row can occur; every row that is a data byte is
the row of some address and its value, so no two rows share a byte and none is out of reach (R163, R167). -/
def Obligations.DataBytesAndRowsAgree : Prop :=
  (∀ (a v : Byte) (s : State), (rowOfDataByte a v).wellFormed = true ∧ (rowOfDataByte a v).dataByte = some v
      ∧ (s.inWrite a → occurs (rowOfDataByte a v) s = true))
    ∧ ∀ (c : Instr) (v : Byte), c.wellFormed = true → c.dataByte = some v → ∃ a, rowOfDataByte a v = c

/-- In STARTING a byte at CMD is answered NOT_READY whatever it names, and any other data byte only moves the pointer
(R137, R166). -/
def Obligations.DataBytesDuringStarting : Prop :=
  ∀ (a v : Byte) (s : State), s.inWrite a → s.scheduler = .starting →
    exec (rowOfDataByte a v) s =
      .next (if a = 0x14 then s.answered v .notReady .none else { s with port := s.port.past })

/-- The values the manual gives after a reset, and the invariants of the part at that state (R1, R13, R19, R35, R36,
R39, R45, R54, R55, R73, R89, R94, R107, R124, R136, R148, R159). -/
def Obligations.ResetValues : Prop :=
  (∀ c : Fin 16, State.reset.channels[c] =
      { enabled := false, positive := c, negative := .common, gain := 0, settling := 4, period := 0, offset := 0,
        band := 0 })
    ∧ (∀ g : Fin 4, State.reset.groups[g] = [] ∧ State.reset.calibration[g] =
      { validity := .nominal, offset := 0, gain := 32768, calibratedAt := none })
    ∧ State.reset.queues = .none ∧ State.reset.timebase = 0 ∧ State.reset.tickSel = 1
    ∧ (∀ c : Fin 16, State.reset.cadence[c] = { armed := false, countdown := 0 }
      ∧ State.reset.monitors[c] = { latest := none, reference := none, inSet := false })
    ∧ (∀ i : Fin 2, (State.reset.triggers[i]).record = { edge := .off, group := 0, holdoff := 0 }
      ∧ (State.reset.triggers[i]).count = 0)
    ∧ (State.reset.arbiter.active = .a ∧ State.reset.arbiter.pointer = 0
      ∧ State.reset.arbiter.bankA = State.reset.arbiter.bankB ∧ State.reset.arbiter.bankA.length = 8
      ∧ (∀ k : Fin 32, State.reset.arbiter.bankA.slots[k] =
        match k.val with
        | 0 | 2 | 4 | 6 => .serve .cadence
        | 1 | 5 => .serve .immediate
        | 3 => .serve .triggered
        | 7 => .serve .maintenance
        | _ => .skip))
    ∧ (State.reset.seq.converter = .idle ∧ State.reset.seq.current = none ∧ State.reset.seq.captured = none
      ∧ State.reset.seq.position = 0 ∧ State.reset.seq.snapshot = none ∧ State.reset.seq.haltPending = false)
    ∧ State.reset.refCondition = false ∧ State.reset.scheduler = .starting
    ∧ State.reset.ring =
      { entries := [], nextSeq := 0, lossCount := 0, pendingLoss := 0, policy := .hold, watermark := 1 }
    ∧ (State.reset.flagsLow = 0 ∧ State.reset.flagsHigh = 0 ∧ State.reset.alerts.enableLow = 0
      ∧ State.reset.alerts.enableHigh = 0 ∧ State.reset.alerts.master = false)
    ∧ (State.reset.port.phase = .waiting ∧ State.reset.port.acknowledge = false ∧ State.reset.port.snapshot = none
      ∧ State.reset.port.acknowledged = [])
    ∧ (State.reset.command.args = Vector.replicate 4 0 ∧ State.reset.command.result = .ok
      ∧ State.reset.command.detail = .none ∧ State.reset.command.echo = 0
      ∧ State.reset.command.staging = Vector.replicate 40 0)
    ∧ (State.reset.ScheduleSound ∧ State.reset.CadenceFollowsTable ∧ State.reset.ring.Form
      ∧ State.reset.EntriesValid ∧ State.reset.CalibrationValid ∧ State.reset.DeviationReported)

/-! ### Run commands -/

/-- START with no cadence at offset 0: RUNNING, every channel that is enabled with a period armed with its offset, no
other effect (R40, R139). -/
def Obligations.StartArmsTheCadences : Prop :=
  ∀ s : State, s.takesByteAt 0x14 → s.scheduler = .stopped → s.queues = .none →
    (∀ c : Fin 16, (s.cadence[c]).armed = false) →
    (∀ c : Fin 16, (s.channels[c]).cadenced = true → (s.channels[c]).offset ≠ 0) →
    exec .start s = .next { s.answered 0x01 .ok .none with
      scheduler := .running
      cadence := Vector.ofFn fun c : Fin 16 =>
        if (s.channels[c]).cadenced then { armed := true, countdown := (s.channels[c]).offset } else s.cadence[c] }

/-- START in general: the channels at offset 0 expire in increasing channel order, and arbitration follows. While the
converter is not IDLE each of them posts one request, and every channel armed counts from its offset or, after its expiry,
from its period (R40, R42, R139). -/
def Obligations.StartExpiresOffsetZeroInOrder : Prop :=
  ∀ s : State, s.takesByteAt 0x14 → s.scheduler = .stopped → (∀ c : Fin 16, (s.cadence[c]).armed = false) →
    let first (c : Fin 16) : Bool := (s.channels[c]).cadenced && (s.channels[c]).offset == 0
    let armed : State := { s.answered 0x01 .ok .none with
      scheduler := .running
      cadence := Vector.ofFn fun c : Fin 16 =>
        if (s.channels[c]).cadenced then { armed := true, countdown := (s.channels[c]).offset } else s.cadence[c] }
    exec .start s = .next (((channelOrder.filter first).foldl (fun t c => t.expire c) armed).arbitrate)
    ∧ (s.seq.converter ≠ .idle → s.active .cadence = true → s.queues = .none →
      exec .start s = .next { armed with
        cadence := Vector.ofFn fun c : Fin 16 =>
          if first c then { armed := true, countdown := (s.channels[c]).period } else armed.cadence[c]
        queues := { s.queues with cadence := (channelOrder.filter first).map Merged.fresh } })

/-- The run commands in a state that does not take them are refused with BAD_STATE, and a code that names no command
with BAD_ARG, and nothing else changes (R139, R140, R142, R143, R167). -/
def Obligations.RefusedRunCommandsAndUnknownCodes : Prop :=
  ∀ (code : Byte) (s : State), s.takesByteAt 0x14 →
    (s.scheduler ≠ .stopped → exec .start s = .next (s.answered 0x01 .badState .none))
      ∧ ((s.scheduler = .stopped ∨ s.scheduler = .paused) →
        exec .pause s = .next (s.answered 0x02 .badState .none))
      ∧ ((s.scheduler = .stopped ∨ s.scheduler = .running) →
        exec .resume s = .next (s.answered 0x03 .badState .none))
      ∧ (s.scheduler = .stopped → exec .stop s = .next (s.answered 0x04 .badState .none))
      ∧ (code ∉ commandCodes → exec (.unknownCommandCode code) s = .next (s.answered code .badArg .none))

/-- PAUSE: PAUSING with a current request, PAUSED with RUN_CHANGE without one, no change from PAUSING (R140, R147). -/
def Obligations.PauseFollowsTheCurrentRequest : Prop :=
  ∀ s : State, s.takesByteAt 0x14 → (s.scheduler = .running ∨ s.scheduler = .pausing) →
    exec .pause s = .next (
      if s.scheduler = .pausing then s.answered 0x02 .ok .none
      else if s.seq.current.isSome then { s.answered 0x02 .ok .none with scheduler := .pausing }
      else { s.answered 0x02 .ok .none with
        scheduler := .paused
        alerts := s.alerts.also fun | .runChange => true | _ => false })

/-- RESUME: RUNNING, and nothing else from PAUSING or while the converter is not IDLE or no request waits; from PAUSED
with the converter IDLE the arbitration of the state that RESUME leaves (R142). -/
def Obligations.ResumeReturnsToRunning : Prop :=
  ∀ s : State, s.takesByteAt 0x14 →
    let running : State := { s.answered 0x03 .ok .none with scheduler := .running }
    ((s.scheduler = .pausing ∨ s.scheduler = .paused ∧ (s.seq.converter ≠ .idle ∨ s.queues = .none)) →
      exec .resume s = .next running)
    ∧ (s.scheduler = .paused → exec .resume s = .next running.arbitrate)

/-- STOP: the entry of the work in progress, then one for each IMMEDIATE request, oldest first; no request left; every
cadence disarmed; both holdoffs ended; STOPPED with RUN_CHANGE; nothing else changes. A request for a group that is empty,
which R14 keeps from arising, would give no entry: the model's choice (log 16) (R31, R32, R43, R53, R84, R143). -/
def Obligations.StopEndsFlushesAndDisarms : Prop :=
  ∀ s : State, s.takesByteAt 0x14 →
    (s.scheduler = .running ∨ s.scheduler = .pausing ∨ s.scheduler = .paused) →
    let ends : Bool := s.seq.current.isSome && s.seq.converter != .idle && s.seq.converter != .halted
    let drafts : List Draft := (if ends then (s.workDraft .stop).toList else [])
      ++ s.queues.immediate.filterMap fun r => s.withdrawnDraft .stop r
    exec .stop s = .next { s.answered 0x04 .ok .none with
      scheduler := .stopped
      queues := .none
      cadence := Vector.replicate 16 { armed := false, countdown := 0 }
      triggers := Vector.ofFn fun i : Fin 2 => { s.triggers[i] with count := 0 }
      seq := if ends then s.seq.ended .recovering else s.seq
      ring := s.ring.handAll drafts
      alerts := s.alerts.also fun
        | .runChange => true
        | .aborted => !drafts.isEmpty
        | .immDone => ends && s.seq.holdsImmediate || !s.queues.immediate.isEmpty
        | .ringLoss => s.ring.loses drafts
        | _ => false }

/-- ABORT_CURRENT: with a member in flight, one HOST entry naming it, the request ended and RECOVERING; otherwise BAD_STATE
while CALIBRATING and IDLE in the other states, with no effect (R80, R82). -/
def Obligations.AbortCurrentEndsTheWorkInFlight : Prop :=
  ∀ (r : Request) (c : Fin 16) (s : State), s.inWrite 0x14 →
    let entry : Draft :=
      { origin := r.origin
        target := .channel c
        place := r.group?.map fun g => { group := g, position := s.seq.position }
        timestamp := s.timebase
        kind := .aborted .host }
    (s.scheduler = .starting → exec .abortCurrent s = .next (s.answered 0x05 .notReady .none))
    ∧ (s.scheduler ≠ .starting → (s.seq.converter = .settling ∨ s.seq.converter = .converting) →
      s.seq.current = some r → s.seq.members[s.seq.position]? = some c →
      exec .abortCurrent s = .next { s.answered 0x05 .ok .none with
        scheduler := s.scheduler.afterEnd true
        seq := s.seq.ended .recovering
        ring := s.ring.hand entry
        alerts := s.alerts.also fun
          | .aborted => true
          | .immDone => r.isImmediate
          | .ringLoss => s.ring.full
          | .runChange => s.scheduler == .pausing
          | _ => false })
    ∧ (s.scheduler ≠ .starting → s.seq.converter = .calibrating →
      exec .abortCurrent s = .next (s.answered 0x05 .badState .none))
    ∧ (s.scheduler ≠ .starting →
      (s.seq.converter = .idle ∨ s.seq.converter = .recovering ∨ s.seq.converter = .halted) →
      exec .abortCurrent s = .next (s.answered 0x05 .idle .none))

/-! ### Posting -/

/-- POST that passes its checks: queued at the tail, and then arbitration. Where the converter is free and no other request
waits, a channel's member starts at once and the pointer moves past the slot found (R23, R29, R65, R77). -/
def Obligations.PostQueuesOrStartsARequest : Prop :=
  ∀ (target : ImmTarget) (c : Fin 16) (slot : Nat) (s : State), s.takesByteAt 0x14 → s.scheduler.accepts = true →
    postTarget s.command.args[0] s.command.args[1] = some target →
    (∀ g : Fin 4, target = .group g → s.groups[g] ≠ []) →
    (∀ d : Fin 16, target = .channel d → (s.channels[d]).enabled = true) →
    s.active .immediate = true → s.queues.immediate.length < 8 →
    let request : ImmRequest := { target := target, tag := s.command.args[2] }
    let posted : State := { s with queues := { s.queues with immediate := s.queues.immediate ++ [request] } }
    let granted : Sequencer := { s.seq with current := some (.immediate request), captured := none }
    exec .post s = .next (posted.answered 0x10 .ok .none).arbitrate
    ∧ (s.free = false → exec .post s = .next (posted.answered 0x10 .ok .none))
    ∧ (s.free = true → target = .channel c → s.queues = .none → posted.search = some (slot, .immediate) →
      exec .post s = .next { s.answered 0x10 .ok .none with
        arbiter := { s.arbiter with pointer := (slot + 1) % s.arbiter.activeBank.length }
        seq := granted.settlingOn s.channels[c] 0 })

/-- POST is refused by the first check of R23 that fails, and then changes nothing else. -/
def Obligations.PostRefusalsInOrder : Prop :=
  ∀ s : State, s.takesByteAt 0x14 →
    let target := postTarget s.command.args[0] s.command.args[1]
    let undefined : Prop := ∃ g : Fin 4, target = some (.group g) ∧ s.groups[g] = []
    let disabled : Prop := ∃ c : Fin 16, target = some (.channel c) ∧ (s.channels[c]).enabled = false
    (s.scheduler = .stopped → exec .post s = .next (s.answered 0x10 .badState .none))
    ∧ (s.scheduler ≠ .stopped → (target = none ∨ undefined) →
      exec .post s = .next (s.answered 0x10 .badArg .none))
    ∧ (s.scheduler ≠ .stopped → target ≠ none → ¬ undefined → s.active .immediate = false →
      exec .post s = .next (s.answered 0x10 .noPhase .none))
    ∧ (s.scheduler ≠ .stopped → s.active .immediate = true → disabled →
      exec .post s = .next (s.answered 0x10 .disabled .none))
    ∧ (s.scheduler ≠ .stopped → target ≠ none → ¬ undefined → s.active .immediate = true → ¬ disabled →
      8 ≤ s.queues.immediate.length → exec .post s = .next (s.answered 0x10 .full .none))

/-- SOFT_TRIGGER is refused by the first check of R51 that fails; one that passes loads the holdoff and coalesces into the
pending request for the record's group, with TRG_OVERRUN, or queues a new one, with arbitration (R51, R52). -/
def Obligations.SoftTriggerActsAsAnAcceptedTrigger : Prop :=
  ∀ (i : Fin 2) (s : State), s.takesByteAt 0x14 →
    let record := (s.triggers[i]).record
    let g := record.group
    let loaded : State := { s.answered 0x11 .ok .none with
      triggers := s.triggers.set i { s.triggers[i] with count := record.holdoff } }
    (s.scheduler = .stopped → exec .softTrigger s = .next (s.answered 0x11 .badState .none))
    ∧ (s.scheduler ≠ .stopped → 2 ≤ (s.command.args[0]).toNat →
      exec .softTrigger s = .next (s.answered 0x11 .badArg .none))
    ∧ (s.scheduler ≠ .stopped → (s.command.args[0]).toNat = i.val →
      (record.edge = .off → exec .softTrigger s = .next (s.answered 0x11 .badState .none))
      ∧ (record.edge ≠ .off → (s.triggers[i]).count ≠ 0 →
        exec .softTrigger s = .next (s.answered 0x11 .holdoff .none))
      ∧ (record.edge ≠ .off → (s.triggers[i]).count = 0 → s.active .triggered = false →
        exec .softTrigger s = .next (s.answered 0x11 .noPhase .none))
      ∧ (record.edge ≠ .off → (s.triggers[i]).count = 0 → s.active .triggered = true →
        exec .softTrigger s = .next (
          if pendingFor g s.queues.triggered then
            { loaded with
              queues := { s.queues with triggered := mergeInto g s.queues.triggered }
              alerts := s.alerts.also fun
                | .trgOverrun => true
                | _ => false }
          else
            ({ loaded with
              queues := { s.queues with triggered := s.queues.triggered ++ [Merged.fresh g] } } : State).arbitrate)))

/-- CALIBRATE is refused by the first check of R28 that fails; one that passes posts, with arbitration, or coalesces one
request for each set bit, in increasing bit order, and sets no flag (R25, R28). -/
def Obligations.CalibratePostsInBitOrder : Prop :=
  ∀ s : State, s.takesByteAt 0x14 →
    let targets : List CalTarget :=
      ((List.finRange 8).filter fun i => (s.command.args[0]).getLsbD i.val).map calTargetOfBit
    let post (t : State) (k : CalTarget) : State :=
      if pendingFor k t.queues.maintenance then
        { t with queues := { t.queues with maintenance := mergeInto k t.queues.maintenance } }
      else
        ({ t with queues := { t.queues with maintenance := t.queues.maintenance ++ [Merged.fresh k] } } : State).arbitrate
    (s.scheduler = .stopped → exec .calibrate s = .next (s.answered 0x12 .badState .none))
    ∧ (s.scheduler ≠ .stopped → s.command.args[0] = 0 → exec .calibrate s = .next (s.answered 0x12 .badArg .none))
    ∧ (s.scheduler ≠ .stopped → s.command.args[0] ≠ 0 → s.active .maintenance = false →
      exec .calibrate s = .next (s.answered 0x12 .noPhase .none))
    ∧ (s.scheduler ≠ .stopped → s.command.args[0] ≠ 0 → s.active .maintenance = true →
      exec .calibrate s = .next (targets.foldl post (s.answered 0x12 .ok .none)))
    ∧ (s.scheduler ≠ .stopped → s.command.args[0] ≠ 0 → s.active .maintenance = true → s.free = false →
      exec .calibrate s = .next { s.answered 0x12 .ok .none with
        queues := { s.queues with
          maintenance := targets.foldl (fun q k => demanded k q) s.queues.maintenance } })

/-! ### Tables -/

/-- TABLE_READ copies the named record into the staging buffer in its layout, 00h beyond it, and changes nothing else; a
table or index that is not there is refused with BAD_ARG. The tables' codes and index limits, which record is the standby
bank and which the active one, and the layouts of the CALIBRATION and MONITOR records; those of the other tables are fixed
with the checks of their staged bytes (R60, R105, R134, R169, R170). -/
def Obligations.TableReadCopiesTheRecord : Prop :=
  ∀ (name : RecordName) (table index : Byte) (c : Fin 16) (g : Fin 4) (i : Fin 2) (s : State),
    (s.takesByteAt 0x14 → recordOf s.command.args[0] s.command.args[1] = some name →
      exec .tableRead s = .next { s.answered 0x20 .ok .none with
        command := { s.command with
          result := .ok, detail := .none, echo := 0x20
          staging := Vector.ofFn fun k : Fin 40 => (s.recordBytes name).getD k.val 0 } })
    ∧ (s.takesByteAt 0x14 → recordOf s.command.args[0] s.command.args[1] = none →
      exec .tableRead s = .next (s.answered 0x20 .badArg .none))
    ∧ (recordOf 0x01 (BitVec.ofNat 8 c.val) = some (.channel c) ∧ recordOf 0x02 (BitVec.ofNat 8 g.val) = some (.group g)
      ∧ recordOf 0x03 (BitVec.ofNat 8 i.val) = some (.trigger i) ∧ recordOf 0x04 0x00 = some .standbyBank
      ∧ recordOf 0x04 0x01 = some .activeBank ∧ recordOf 0x05 (BitVec.ofNat 8 g.val) = some (.calibration g)
      ∧ recordOf 0x06 (BitVec.ofNat 8 c.val) = some (.monitor c))
    ∧ (recordOf table index = none ↔
      ¬ ((table = 0x01 ∨ table = 0x06) ∧ index.toNat < 16 ∨ (table = 0x02 ∨ table = 0x05) ∧ index.toNat < 4
        ∨ (table = 0x03 ∨ table = 0x04) ∧ index.toNat < 2))
    ∧ (s.recordBytes (.channel c) = (s.channels[c]).bytes ∧ s.recordBytes (.group g) = groupBytes s.groups[g]
      ∧ s.recordBytes (.trigger i) = (s.triggers[i]).record.bytes
      ∧ s.recordBytes .standbyBank = (if s.arbiter.active = .a then s.arbiter.bankB else s.arbiter.bankA).bytes
      ∧ s.recordBytes .activeBank = (if s.arbiter.active = .a then s.arbiter.bankA else s.arbiter.bankB).bytes)
    ∧ (let r := s.calibration[g]
      let byte (k : Nat) : Byte := (s.recordBytes (.calibration g)).getD k 0
      (s.recordBytes (.calibration g)).length = 10
        ∧ byte 0 = (match r.validity with
          | .nominal => 0x00
          | .calibrated => 0x01
          | .failed => 0x02)
        ∧ byte 1 = (if r.calibratedAt.isSome then 0x01 else 0x00) ∧ byte 3 ++ byte 2 = r.offset
        ∧ byte 5 ++ byte 4 = r.gain ∧ byte 9 ++ byte 8 ++ byte 7 ++ byte 6 = r.calibratedAt.getD 0)
    ∧ (let r := s.monitors[c]
      let byte (k : Nat) : Byte := (s.recordBytes (.monitor c)).getD k 0
      (s.recordBytes (.monitor c)).length = 9
        ∧ (byte 0).toNat = r.latest.isSome.toNat + 2 * r.reference.isSome.toNat + 4 * r.inSet.toNat
        ∧ byte 2 ++ byte 1 = (r.latest.map Latest.value).getD 0
        ∧ byte 6 ++ byte 5 ++ byte 4 ++ byte 3 = (r.latest.map Latest.timestamp).getD 0
        ∧ byte 8 ++ byte 7 = r.reference.getD 0)

/-- An accepted channel write that neither disables the channel nor reaches its cadence stores the record whole, evaluates
the deviation condition with the stored band, and has no other effect; a refused one gives the first failing check's
detail and stores nothing (R5, R6, R12). -/
def Obligations.ChannelWriteStoresTheRecord : Prop :=
  ∀ (i : Fin 16) (new : ChannelRecord) (d : DetailCode) (s : State), s.takesByteAt 0x14 →
    recordOf s.command.args[0] s.command.args[1] = some (.channel i) →
    let old := s.channels[i]
    let stored : State := { s with channels := s.channels.set i new }
    (parseChannel s.command.staging = .ok new → (old.enabled = true → new.enabled = true) →
      (s.scheduler = .stopped ∨ new.cadenced = old.cadenced ∧
        (new.cadenced = true → new.period = old.period ∧ new.offset = old.offset)) →
      exec .tableWrite s = .next { stored.answered 0x21 .ok .none with monitors := stored.evaluated i })
    ∧ (parseChannel s.command.staging = .error d →
      exec .tableWrite s = .next (s.answered 0x21 .refused d))

/-- What an accepted channel write does to the cadence of its channel, and that it does nothing to the others'. A write that
disables nothing and brings about no expiry, one that arms or re-arms with an offset other than 0 and one that sets the
period to 0 among them, answers OK, stores the record, evaluates the condition, and has no other effect (R6, R10, R11, R12,
R39, R43). -/
def Obligations.ChannelWriteGovernsTheCadence : Prop :=
  ∀ (i : Fin 16) (new : ChannelRecord) (s : State), s.takesByteAt 0x14 →
    recordOf s.command.args[0] s.command.args[1] = some (.channel i) → parseChannel s.command.staging = .ok new →
    let old := s.channels[i]
    let same : Bool := old.cadenced && old.period == new.period && old.offset == new.offset
    let stored : State := { s with channels := s.channels.set i new }
    let cadence : Vector Cadence 16 :=
      if s.scheduler = .stopped then s.cadence
      else s.cadence.set i
        (if new.cadenced then
          if same then s.cadence[i]
          else { armed := true, countdown := if new.offset = 0 then new.period else new.offset }
        else if old.cadenced then { armed := false, countdown := 0 } else s.cadence[i])
    (∃ t, exec .tableWrite s = .next t ∧ t.channels = s.channels.set i new ∧ t.cadence = cadence)
    ∧ ((old.enabled = true → new.enabled = true) →
      (s.scheduler = .stopped ∨ new.cadenced = false ∨ same = true ∨ new.offset ≠ 0) →
      exec .tableWrite s = .next { stored.answered 0x21 .ok .none with
        monitors := stored.evaluated i
        cadence := cadence })

/-- A write that arms or re-arms a channel at offset 0 posts one CADENCE demand at the write: dropped with CAD_OVERRUN,
coalesced with CAD_OVERRUN, or queued, with arbitration (R11, R42). -/
def Obligations.ChannelWriteAtOffsetZeroExpires : Prop :=
  ∀ (i : Fin 16) (new : ChannelRecord) (s : State), s.takesByteAt 0x14 →
    recordOf s.command.args[0] s.command.args[1] = some (.channel i) → parseChannel s.command.staging = .ok new →
    s.scheduler ≠ .stopped → new.cadenced = true → new.offset = 0 →
    ((s.channels[i]).cadenced = true → (s.channels[i]).period ≠ new.period ∨ (s.channels[i]).offset ≠ new.offset) →
    let stored : State := { s with channels := s.channels.set i new }
    let loaded : State := { stored.answered 0x21 .ok .none with
      monitors := stored.evaluated i
      cadence := s.cadence.set i { armed := true, countdown := new.period } }
    let flagged : State := { loaded with
      alerts := s.alerts.also fun
        | .cadOverrun => true
        | _ => false }
    (s.active .cadence = false → exec .tableWrite s = .next flagged)
    ∧ (s.active .cadence = true → pendingFor i s.queues.cadence = true → exec .tableWrite s = .next
      { flagged with queues := { s.queues with cadence := mergeInto i s.queues.cadence } })
    ∧ (s.active .cadence = true → pendingFor i s.queues.cadence = false → exec .tableWrite s = .next
      ({ loaded with queues := { s.queues with cadence := s.queues.cadence ++ [Merged.fresh i] } } : State).arbitrate)

/-- A disable: the member in flight of the channel aborted with one DISABLED entry, then one entry for each removed
single-channel IMMEDIATE request, oldest first; the CADENCE request removed without an entry; group requests left in
place; a request that loses its last member ended; the cadence disarmed, in PAUSING as R39 says (R7, R8, R9, R11, R39,
R83). -/
def Obligations.DisableWithdrawsTheChannel : Prop :=
  ∀ (i : Fin 16) (new : ChannelRecord) (s : State), s.takesByteAt 0x14 →
    recordOf s.command.args[0] s.command.args[1] = some (.channel i) → parseChannel s.command.staging = .ok new →
    (s.channels[i]).enabled = true → new.enabled = false →
    let stored : State := { s with channels := s.channels.set i new }
    let flying : Bool := s.seq.current.isSome && s.seq.converter.inFlight &&
      decide (s.seq.members[s.seq.position]? = some i)
    let last : Bool := decide (s.seq.members.length ≤ s.seq.position + 1)
    let mine : List ImmRequest := s.queues.immediate.filter fun r => decide (r.target = .channel i)
    let cut (r : Request) : Draft :=
      { origin := r.origin
        target := .channel i
        place := r.group?.map fun g => { group := g, position := s.seq.position }
        timestamp := s.timebase
        kind := .aborted .disabled }
    let gone (r : ImmRequest) : Draft :=
      { origin := .immediate r.tag
        target := .channel i
        place := none
        timestamp := s.timebase
        kind := .aborted .disabled }
    let drafts : List Draft := (if flying then s.seq.current.toList.map cut else []) ++ mine.map gone
    exec .tableWrite s = .next { stored.answered 0x21 .ok .none with
      scheduler := s.scheduler.afterEnd (flying && last)
      seq :=
        if flying then
          if last then s.seq.ended .recovering
          else { s.seq with converter := .recovering, snapshot := none, position := s.seq.position + 1 }
        else s.seq
      queues := { s.queues with
        immediate := s.queues.immediate.filter fun r => decide (r.target ≠ .channel i)
        cadence := s.queues.cadence.filter fun r => decide (r.target ≠ i) }
      cadence :=
        if s.scheduler ≠ .stopped ∧ (s.channels[i]).cadenced then s.cadence.set i { armed := false, countdown := 0 }
        else s.cadence
      monitors := stored.evaluated i
      ring := s.ring.handAll drafts
      alerts := s.alerts.also fun
        | .aborted => !drafts.isEmpty
        | .immDone => flying && last && s.seq.holdsImmediate || !mine.isEmpty
        | .ringLoss => s.ring.loses drafts
        | .runChange => flying && last && decide (s.scheduler = .pausing)
        | _ => false }

/-- TABLE_WRITE to a GROUP or TRIGGER record: an accepted record is stored whole, a trigger's running holdoff and last
level kept; a refused one gives its check's result and detail and stores nothing (R14, R15, R46, R47). -/
def Obligations.GroupAndTriggerWrites : Prop :=
  ∀ (g : Fin 4) (i : Fin 2) (members : List (Fin 16)) (record : TriggerRecord) (d : DetailCode) (s : State),
    s.takesByteAt 0x14 →
    (recordOf s.command.args[0] s.command.args[1] = some (.group g) →
      (parseGroup s.command.staging = .error d → exec .tableWrite s = .next (s.answered 0x21 .refused d))
      ∧ (parseGroup s.command.staging = .ok members →
        exec .tableWrite s = .next (
          if members = [] ∧ s.triggerBound g then s.answered 0x21 .inUse .triggerBound
          else if members = [] ∧ s.requestHeld g then s.answered 0x21 .inUse .requestHeld
          else { s.answered 0x21 .ok .none with groups := s.groups.set g members })))
    ∧ (recordOf s.command.args[0] s.command.args[1] = some (.trigger i) →
      (parseTrigger s.command.staging = .error d → exec .tableWrite s = .next (s.answered 0x21 .refused d))
      ∧ (parseTrigger s.command.staging = .ok record →
        exec .tableWrite s = .next (
          if record.edge ≠ .off ∧ s.groups[record.group] = [] then s.answered 0x21 .refused .groupUndefined
          else { s.answered 0x21 .ok .none with
            triggers := s.triggers.set i { s.triggers[i] with record := record } })))

/-- TABLE_WRITE to PHASE record 0 replaces the standby bank whole and leaves the active bank and the pointer; a refused
record gives its check's detail; a read-only record, or one that is not there, is refused with BAD_ARG (R58, R59, R105,
R134, R169). -/
def Obligations.StandbyBankAndReadOnlyWrites : Prop :=
  ∀ (bank : PhaseBank) (d : DetailCode) (g : Fin 4) (c : Fin 16) (s : State), s.takesByteAt 0x14 →
    let name := recordOf s.command.args[0] s.command.args[1]
    (name = some .standbyBank → parsePhase s.command.staging = .error d →
      exec .tableWrite s = .next (s.answered 0x21 .refused d))
    ∧ (name = some .standbyBank → parsePhase s.command.staging = .ok bank →
      exec .tableWrite s = .next { s.answered 0x21 .ok .none with
        arbiter :=
          if s.arbiter.active = .a then { s.arbiter with bankB := bank } else { s.arbiter with bankA := bank } })
    ∧ ((name = none ∨ name = some .activeBank ∨ name = some (.calibration g) ∨ name = some (.monitor c)) →
      exec .tableWrite s = .next (s.answered 0x21 .badArg .none))

/-- The checks of R5, of R14 on the count and the slots, of R46 on the codes, and of R58 on the staged bytes, each in their
order: the first that fails gives the detail, and a record that passes them all has the fields its staged bytes name, and
has those bytes as its layout (R5, R14, R46, R58, R175). -/
def Obligations.StagedRecordChecksInOrder : Prop :=
  ∀ b : Vector Byte 40,
    let period := b[6] ++ b[5]
    let offset := b[8] ++ b[7]
    let band := b[10] ++ b[9]
    let count := b[0].toNat
    let members := (b.toList.drop 1).take count
    let slots := (b.toList.drop 1).take 32
    let edges : List EdgeSelect := [.off, .rising, .falling, .both]
    let classes : List Slot := [.skip, .serve .immediate, .serve .triggered, .serve .cadence, .serve .maintenance]
    ChecksDecide
      [(decide (1 < b[0].toNat), .enableCode), (decide (15 < b[1].toNat), .posInput),
        (decide (16 < b[2].toNat), .negInput), (decide (b[1] = b[2]), .sameInput), (decide (3 < b[3].toNat), .gain),
        (decide (b[4] = 0), .settling), (decide (period ≠ 0 ∧ period.toNat ≤ offset.toNat), .offset),
        (decide (32767 < band.toNat), .band)]
      (parseChannel b) (fun r => r.Valid ∧ r.bytes = b.toList.take 11
        ∧ r.enabled = decide (b[0] = 0x01) ∧ r.positive.val = b[1].toNat
        ∧ (match r.negative with
          | .ain pin => pin.val
          | .common => 16) = b[2].toNat
        ∧ r.gain.val = b[3].toNat ∧ r.settling = b[4] ∧ r.period = period ∧ r.offset = offset ∧ r.band = band)
    ∧ ChecksDecide
      [(decide (8 < count), .memberCount), (members.any fun v => decide (15 < v.toNat), .memberChannel),
        (decide (¬ members.Nodup), .duplicate)]
      (parseGroup b) (fun l => l.Nodup ∧ groupBytes l = b.toList.take (count + 1)
        ∧ l.map Fin.val = members.map BitVec.toNat)
    ∧ ChecksDecide
      [(decide (3 < b[0].toNat), .edgeCode), (decide (3 < b[1].toNat), .triggerGroup)]
      (parseTrigger b) (fun r => r.bytes = b.toList.take 4 ∧ edges[b[0].toNat]? = some r.edge
        ∧ r.group.val = b[1].toNat ∧ r.holdoff = b[3] ++ b[2])
    ∧ ChecksDecide
      [(decide (count = 0 ∨ 32 < count), .length), (slots.any fun v => decide (4 < v.toNat), .slotCode),
        ((slots.take count).all fun v => decide (v = 0x00), .noClass)]
      (parsePhase b) (fun p => p.Valid ∧ p.bytes = b.toList.take 33 ∧ p.length = count
        ∧ slots.map (fun v => classes[v.toNat]?) = p.slots.toList.map some)

/-- A record read and written back is accepted and is the same record, for every record that can be stored (R170, R175). -/
def Obligations.RecordsReadAndWrittenBackAreTheSame : Prop :=
  (∀ r : ChannelRecord, r.Valid → parseChannel (stagingOf r.bytes) = .ok r)
    ∧ (∀ l : List (Fin 16), l.length ≤ 8 → l.Nodup → parseGroup (stagingOf (groupBytes l)) = .ok l)
    ∧ (∀ r : TriggerRecord, parseTrigger (stagingOf r.bytes) = .ok r)
    ∧ ∀ b : PhaseBank, b.Valid → parsePhase (stagingOf b.bytes) = .ok b

/-- SWAP_BANKS exchanges the roles of the banks and sets the pointer to 0, and takes no arbitration; it is refused in
STARTING, and for a class that would be left with requests and no slot, the classes weighed in the order of R67 (R67,
R68). -/
def Obligations.SwapExchangesTheBanks : Prop :=
  ∀ s : State, s.inWrite 0x14 →
    exec .swapBanks s = .next (
      if s.scheduler = .starting then s.answered 0x22 .notReady .none
      else if s.queues.waiting .immediate ∧ ¬ s.arbiter.standbyBank.appears .immediate then
        s.answered 0x22 .refused .strandedImmediate
      else if s.queues.waiting .triggered ∧ ¬ s.arbiter.standbyBank.appears .triggered then
        s.answered 0x22 .refused .strandedTriggered
      else if s.queues.waiting .cadence ∧ ¬ s.arbiter.standbyBank.appears .cadence then
        s.answered 0x22 .refused .strandedCadence
      else if s.queues.waiting .maintenance ∧ ¬ s.arbiter.standbyBank.appears .maintenance then
        s.answered 0x22 .refused .strandedMaintenance
      else { s.answered 0x22 .ok .none with
        arbiter := { s.arbiter with active := if s.arbiter.active = .a then .b else .a, pointer := 0 } })

/-! ### The ring, references and time by command -/

/-- RING_RELEASE by the modular distance of the sequence number from the head's (R117). -/
def Obligations.ReleaseRemovesThroughTheNamedEntry : Prop :=
  ∀ s : State, s.takesByteAt 0x14 →
    let n := s.ring.entries.length
    (s.ring.entries = [] → exec .ringRelease s = .next (s.answered 0x30 .empty .none))
    ∧ ∀ h : 0 < n,
      let d := ((s.command.args[0]).toNat + 256 * (s.command.args[1]).toNat + 65536
        - (s.ring.entries[0]'h).seq.toNat) % 65536
      exec .ringRelease s = .next (
        if d < n then
          { s.answered 0x30 .ok .none with ring := { s.ring with entries := s.ring.entries.drop (d + 1) } }
        else if d < 32768 then s.answered 0x30 .badArg .none
        else s.answered 0x30 .stale .none)

/-- RING_CLEAR empties the ring and both counts, keeps the next sequence number, the policy and the watermark, clears no
flag, and RING_LEVEL follows the level of 0; a clear and an entry taken in either order (R121). -/
def Obligations.ClearEmptiesTheRing : Prop :=
  ∀ (d : Draft) (s : State), s.inWrite 0x14 →
    (s.scheduler = .starting → exec .ringClear s = .next (s.answered 0x31 .notReady .none))
    ∧ (s.scheduler ≠ .starting → exec .ringClear s = .next { s.answered 0x31 .ok .none with
        ring := { s.ring with entries := [], lossCount := 0, pendingLoss := 0 } })
    ∧ (s.scheduler ≠ .starting → 0 < s.ring.watermark →
      ∃ t, exec .ringClear s = .next t ∧ t.ringLevelFlag = false
        ∧ (t.ring.hand d).entries = [{ seq := s.ring.nextSeq, lossBefore := none, draft := d }]
        ∧ ∃ u, exec .ringClear (s.produce d) = .next u ∧ u.ring.entries = [] ∧ u.ring.lossCount = 0
          ∧ u.ring.pendingLoss = 0)

/-- RING_CONFIG stores the policy and the watermark together, or refuses and stores neither; RING_LEVEL follows the new
watermark, and the new policy decides the next entry handed to a full ring (R122). -/
def Obligations.ConfigStoresPolicyAndWatermark : Prop :=
  ∀ (d : Draft) (s : State), s.inWrite 0x14 →
    let w := (s.command.args[1]).toNat
    let a := s.command.args[0]
    (s.scheduler = .starting → exec .ringConfig s = .next (s.answered 0x32 .notReady .none))
    ∧ (s.scheduler ≠ .starting → (a ≠ 0x00 ∧ a ≠ 0x01 ∨ w = 0 ∨ 64 < w) →
      exec .ringConfig s = .next (s.answered 0x32 .badArg .none))
    ∧ (s.scheduler ≠ .starting → (a = 0x00 ∨ a = 0x01) → 1 ≤ w → w ≤ 64 →
      let t : State := { s.answered 0x32 .ok .none with
        ring := { s.ring with policy := if a = 0x00 then .hold else .overwrite, watermark := w } }
      exec .ringConfig s = .next t ∧ t.ringLevelFlag = decide (w ≤ s.ring.entries.length)
        ∧ (s.ring.full = true → t.ring.hand d = if a = 0x00 then t.ring.discard else t.ring.dropHead.place d))

/-- SET_REFERENCE sets the reference or makes it absent and evaluates the condition; a channel above 15 or a presence code
that is neither refuses it (R133). -/
def Obligations.SetReferenceSetsAndEvaluates : Prop :=
  ∀ (c : Fin 16) (s : State), s.takesByteAt 0x14 →
    let f : Option Word16 :=
      if s.command.args[1] = 0x01 then some (word16 s.command.args[2] s.command.args[3]) else none
    let told : State := { s with monitors := s.monitors.set c { s.monitors[c] with reference := f } }
    ((16 ≤ (s.command.args[0]).toNat ∨ (s.command.args[1] ≠ 0x00 ∧ s.command.args[1] ≠ 0x01)) →
      exec .setReference s = .next (s.answered 0x40 .badArg .none))
    ∧ ((s.command.args[0]).toNat = c.val → (s.command.args[1] = 0x00 ∨ s.command.args[1] = 0x01) →
      exec .setReference s = .next { s.answered 0x40 .ok .none with monitors := told.evaluated c })

/-- SET_TICK in STOPPED stores the selection and leaves the interval in progress and the timebase; out of STOPPED it is
refused with BAD_STATE, and then for a selection above 3 with BAD_ARG (R37). -/
def Obligations.SetTickStoresTheSelection : Prop :=
  ∀ s : State, s.takesByteAt 0x14 →
    (s.scheduler ≠ .stopped → exec .setTick s = .next (s.answered 0x41 .badState .none))
    ∧ (s.scheduler = .stopped → 3 < (s.command.args[0]).toNat →
      exec .setTick s = .next (s.answered 0x41 .badArg .none))
    ∧ ∀ sel : BitVec 2, s.scheduler = .stopped → (s.command.args[0]).toNat = sel.toNat →
      exec .setTick s = .next { s.answered 0x41 .ok .none with tickSel := sel }

/-! ### Alert registers and the other write addresses -/

/-- A byte at 18h clears the latched flags at its ones, and one at 19h those of ABORTED, CMD_ERROR and RUN_CHANGE, whatever
their enables hold; RING_LEVEL and DEVIATION keep to their conditions; zeros clear nothing (R149, R150). -/
def Obligations.OnesClearLatchedFlags : Prop :=
  ∀ (v : Byte) (s : State),
    let f := s.alerts.flags
    (s.takesByteAt 0x18 →
      exec (.clearLatchedFlag v) s = .next { s with
        port := s.port.past
        alerts := { s.alerts with flags := { f with
          ringLoss := f.ringLoss && !v.getLsbD 1
          immDone := f.immDone && !v.getLsbD 3
          cadOverrun := f.cadOverrun && !v.getLsbD 4
          trgOverrun := f.trgOverrun && !v.getLsbD 5
          calDone := f.calDone && !v.getLsbD 6
          calFail := f.calFail && !v.getLsbD 7 } } })
    ∧ (s.takesByteAt 0x19 → v.getLsbD 0 = false →
      exec (.clearLatchedFlag v) s = .next { s with
        port := s.port.past
        alerts := { s.alerts with flags := { f with
          aborted := f.aborted && !v.getLsbD 1
          cmdError := f.cmdError && !v.getLsbD 2
          runChange := f.runChange && !v.getLsbD 3 } } })
    ∧ (s.takesByteAt 0x19 → v.getLsbD 0 = true → exec (.clearLatchedFlag v) s = exec (.refFaultClear v) s)

/-- A clear request for REF_FAULT is refused while the reference condition is present or a halt is pending; otherwise the
flag is cleared and a HALTED converter enters IDLE, where arbitration is taken. The ones for the other flags of the byte
take effect either way, and CMD_ERROR is not set. That those other flags are cleared before the release and its arbitration
is the model's choice, deduced (log 6) (R92, R149, R151). -/
def Obligations.RefFaultClearIsDecidedByTheMonitor : Prop :=
  ∀ (v : Byte) (s : State), s.takesByteAt 0x19 → v.getLsbD 0 = true →
    let f := s.alerts.flags
    let others : State := { s with
      port := s.port.past
      alerts := { s.alerts with flags := { f with
        aborted := f.aborted && !v.getLsbD 1
        cmdError := f.cmdError && !v.getLsbD 2
        runChange := f.runChange && !v.getLsbD 3 } } }
    let cleared : State :=
      { others with alerts := { others.alerts with flags := { others.alerts.flags with refFault := false } } }
    ((s.refCondition = true ∨ s.seq.haltPending = true) → exec (.refFaultClear v) s = .next others)
    ∧ (s.refCondition = false → s.seq.haltPending = false →
      (s.seq.converter ≠ .halted → exec (.refFaultClear v) s = .next cleared)
      ∧ (s.seq.converter = .halted → s.scheduler ≠ .running →
        exec (.refFaultClear v) s = .next { cleared with seq := { s.seq with converter := .idle } })
      ∧ (s.seq.converter = .halted →
        exec (.refFaultClear v) s = .next ({ cleared with seq := { s.seq with converter := .idle } }).arbitrate))

/-- ALERT_ENABLE and ALERT_MASTER store what is written and change no flag; ALERTN is asserted exactly while the master
enable is on and an enabled flag is set, out of reset (R154, R155, R156). -/
def Obligations.EnablesStoreAndAlertnFollows : Prop :=
  ∀ (v : Byte) (s : State),
    (s.takesByteAt 0x1A → exec (.alertEnableWrite v) s = .next { s with
      port := s.port.past, alerts := { s.alerts with enableLow := v } })
    ∧ (s.takesByteAt 0x1B → exec (.alertEnableWrite v) s = .next { s with
      port := s.port.past, alerts := { s.alerts with enableHigh := v.extractLsb' 0 4 } })
    ∧ (s.takesByteAt 0x1C → exec (.alertMasterWrite v) s = .next { s with
      port := s.port.past, alerts := { s.alerts with master := v.getLsbD 0 } })
    ∧ (s.alertnAsserted = true ↔ s.alerts.master = true ∧ s.held = false ∧
      ((∃ k : Fin 8, s.flagsLow.getLsbD k.val = true ∧ s.alerts.enableLow.getLsbD k.val = true)
        ∨ ∃ k : Fin 4, s.flagsHigh.getLsbD k.val = true ∧ s.alerts.enableHigh.getLsbD k.val = true))

/-- A byte at 1Eh or 1Fh takes out of the deviation set each channel at a one whose condition does not hold, and nothing
else changes (R128). -/
def Obligations.DeviationClearsAreDecidedOneByOne : Prop :=
  ∀ (v : Byte) (s : State),
    (s.takesByteAt 0x1E → exec (.deviationSetClearRequest v) s = .next { s with
      port := s.port.past
      monitors := Vector.ofFn fun c : Fin 16 => { s.monitors[c] with
        inSet := (s.monitors[c]).inSet && !(decide (c.val < 8) && v.getLsbD c.val && !s.deviates c) } })
    ∧ (s.takesByteAt 0x1F → exec (.deviationSetClearRequest v) s = .next { s with
      port := s.port.past
      monitors := Vector.ofFn fun c : Fin 16 => { s.monitors[c] with
        inSet := (s.monitors[c]).inSet && !(decide (8 ≤ c.val) && v.getLsbD (c.val - 8) && !s.deviates c) } })

/-- A byte at 10h to 13h is stored as an argument, one at 40h to 67h in the staging buffer, and one at any address without
a row of its own is ignored; the pointer advances past each (R163, R174). -/
def Obligations.RegisterWritesStoreOrAreIgnored : Prop :=
  ∀ (a v : Byte) (s : State), s.takesByteAt a → a ∉ ownRowAddresses →
    (∀ k : Fin 4, a.toNat = 16 + k.val → exec (.registerWrite v) s = .next { s with
      port := s.port.past, command := { s.command with args := s.command.args.set k v } })
    ∧ (∀ k : Fin 40, a.toNat = 64 + k.val → exec (.registerWrite v) s = .next { s with
      port := s.port.past, command := { s.command with staging := s.command.staging.set k v } })
    ∧ ((a.toNat < 16 ∨ 19 < a.toNat ∧ a.toNat < 64 ∨ 103 < a.toNat) →
      exec (.registerWrite v) s = .next { s with port := s.port.past })

/-! ### Transactions -/

/-- The frame of a transaction: CSN falling begins one and takes the mode, the header makes it a write, a read, a read with
the modifier or an ignored transaction, the address of a write sets the pointer, and CSN rising ends it with no other
effect, a partial byte discarded. Sampling edges of SCLK count bits, and the eighth completes the byte, most significant bit
first, which is the row that its place in the transaction makes it. The edges as an operation apart from the rows (log 13),
and a transaction that begins not at all where CSN falls while the part is held in reset (log 11, deduced from R146 and
R159), are the model's choices (R146, R160, R161, R162). -/
def Obligations.TransactionFrame : Prop :=
  ∀ (sclk sdi : Bool) (v : Byte) (bits : Fin 8) (s : State),
    let whole : State := { s with port := { s.port with bits := [] } }
    (s.port.csnLow = false → s.held = false → exec (.csnFall sclk) s = .next { s with port := { s.port with
      csnLow := true, phase := .header, mode := if sclk then .mode3 else .mode0, bits := [] } })
    ∧ (s.port.csnLow = false → s.held = true →
      exec (.csnFall sclk) s = .next { s with port := { s.port with csnLow := true } })
    ∧ (s.port.phase = .header → exec (.headerByte v) s = .next { s with port := { s.port with
      phase := if v = 0x00 ∨ v = 0x80 ∨ v = 0xC0 then .address else .ignored
      direction := if v = 0x00 then .write else if v = 0x80 ∨ v = 0xC0 then .read else s.port.direction
      acknowledge := v == 0xC0
      clocked := Vector.replicate 32 false } })
    ∧ (s.port.phase = .address → s.port.direction = .write →
      exec (.writeAddressByte v) s = .next { s with port := { s.port with phase := .data, pointer := v } })
    ∧ (s.port.csnLow = true → s.port.acknowledging = false → exec (.csnRise bits) s = .next { s with port :=
      { s.port with
        csnLow := false, phase := .waiting, bits := [], snapshot := none, clocked := Vector.replicate 32 false } })
    ∧ (s.port.csnLow = true → s.held = false → s.port.bits.length < 7 →
      s.sampleBit sdi = .next { s with port := { s.port with bits := s.port.bits ++ [sdi] } })
    ∧ (s.port.csnLow = true → s.held = false → s.port.bits = (List.range 7).map (fun k => v.getMsbD k) →
      s.sampleBit (v.getMsbD 7) =
        match s.port.phase, s.port.direction with
        | .header, _ => exec (.headerByte v) whole
        | .address, .write => exec (.writeAddressByte v) whole
        | .address, .read => exec (.readSnapshot v) whole
        | .data, .write => exec (rowOfDataByte s.port.pointer v) whole
        | .data, .read => exec .readDataByte whole
        | .waiting, _ => .next whole
        | .ignored, _ => .next whole)
    ∧ ((s.port.csnLow = false ∨ s.held = true) → s.sampleBit sdi = .next s)

/-- The address byte of a read takes the snapshot of the window and changes no other block; each data byte clocked out
moves the pointer and, under the modifier, marks a byte of the latest-value window. SDO is at high impedance while CSN is
high and while the part is held in reset; while CSN is low it shows the snapshot's byte at the pointer during the data bytes
of a read and 0 otherwise, most significant bit first. The presence of the latest values in the snapshot (log 12) and the
levels of SDO apart from the rows (log 13) are the model's choices (R146, R160, R162, R164, R165). -/
def Obligations.ReadsSeeOneSnapshot : Prop :=
  ∀ (v : Byte) (w : ReadSnapshot) (k : Fin 8) (s : State),
    let taken : ReadSnapshot :=
      { window := Vector.ofFn fun i : Fin 256 => s.windowByte (BitVec.ofNat 8 i.val)
        latest := Vector.ofFn fun c : Fin 16 => (s.monitors[c]).latest.map Latest.value }
    (s.port.phase = .address → s.port.direction = .read →
      exec (.readSnapshot v) s = .next { s with
        port := { s.port with phase := .data, pointer := v, snapshot := some taken } })
    ∧ (s.port.phase = .data → s.port.direction = .read →
      exec .readDataByte s = .next { s with
        port := { s.port with
          pointer := s.port.pointer + 1
          clocked := Vector.ofFn fun k : Fin 32 =>
            s.port.clocked[k] || s.port.acknowledge && s.port.pointer.toNat == 128 + k.val } })
    ∧ ((s.port.csnLow = false ∨ s.held = true) → s.sdo = none ∧ s.sdoLevel = none)
    ∧ (s.port.csnLow = true → s.held = false → s.port.bits.length = k.val →
      (s.port.phase = .data → s.port.direction = .read → s.port.snapshot = some w →
        let shown := w.window[s.port.pointer.toNat]'s.port.pointer.isLt
        s.sdo = some shown ∧ s.sdoLevel = some (shown.getLsbD (7 - k.val)))
      ∧ ((s.port.phase ≠ .data ∨ s.port.direction = .write) → s.sdo = some 0x00 ∧ s.sdoLevel = some false))

/-- What a read of the window sees, at every address: the identity, the run status and the reference condition, the queue
levels, the Arbiter's status, the timebase and the tick selection, the command block, the flags, enables and master enable,
the deviation set, the ring's items, the head entry field by field or 00h throughout, the staging buffer, each channel's
latest value or 8000h, and 00h at CMD and at every address the map does not list; and the codes of the states, results and
details (R34, R36, R72, R108, R109, R115, R116, R129, R130, R158, R168, R174). -/
def Obligations.WindowShowsTheState : Prop :=
  ∀ s : State,
    let w (n : Nat) : Byte := s.windowByte (BitVec.ofNat 8 n)
    let bit (n k : Nat) : Bool := (w n).getLsbD k
    let f := s.alerts.flags
    (w 0 = 0xA7 ∧ w 1 = 0x01 ∧ (w 2).toNat = s.scheduler.code + 16 * s.seq.converter.code
      ∧ w 3 = if s.refCondition then 0x01 else 0x00)
    ∧ ((w 4).toNat = s.queues.immediate.length % 256 ∧ (w 5).toNat = s.queues.triggered.length % 256
      ∧ (w 6).toNat = s.queues.cadence.length % 256 ∧ (w 7).toNat = s.queues.maintenance.length % 256)
    ∧ ((w 8).toNat = s.arbiter.pointer % 32 + (if s.arbiter.active = .b then 128 else 0)
      ∧ (w 9).toNat = (if s.arbiter.active = .b then s.arbiter.bankB else s.arbiter.bankA).length % 256)
    ∧ (w 13 ++ w 12 ++ w 11 ++ w 10 = s.timebase ∧ (w 14).toNat = s.tickSel.toNat)
    ∧ ((∀ k : Fin 4, w (16 + k.val) = s.command.args[k]) ∧ w 20 = 0x00 ∧ w 21 = s.command.result.code
      ∧ w 22 = s.command.detail.code ∧ w 23 = s.command.echo)
    ∧ (bit 24 0 = decide (s.ring.watermark ≤ s.ring.entries.length) ∧ bit 24 1 = f.ringLoss
      ∧ (bit 24 2 = true ↔ ∃ c : Fin 16, (s.monitors[c]).inSet = true) ∧ bit 24 3 = f.immDone
      ∧ bit 24 4 = f.cadOverrun ∧ bit 24 5 = f.trgOverrun ∧ bit 24 6 = f.calDone ∧ bit 24 7 = f.calFail)
    ∧ (w 25).toNat = f.refFault.toNat + 2 * f.aborted.toNat + 4 * f.cmdError.toNat + 8 * f.runChange.toNat
    ∧ (w 26 = s.alerts.enableLow ∧ (w 27).toNat = s.alerts.enableHigh.toNat ∧ (w 28).toNat = s.alerts.master.toNat)
    ∧ (∀ c : Fin 16, (w 31 ++ w 30).getLsbD c.val = (s.monitors[c]).inSet)
    ∧ ((w 32).toNat = s.ring.entries.length % 256 ∧ (w 33).toNat = s.ring.watermark % 256
      ∧ w 34 = (if s.ring.policy = .hold then 0x00 else 0x01) ∧ w 36 ++ w 35 = s.ring.lossCount
      ∧ w 38 ++ w 37 = s.ring.nextSeq)
    ∧ (s.ring.entries = [] → ∀ k : Fin 16, w (48 + k.val) = 0x00)
    ∧ (∀ e rest, s.ring.entries = e :: rest →
      let d := e.draft
      let tag : Option Byte := match d.origin with
        | .immediate tag => some tag
        | _ => none
      let count : Option (BitVec 4) := match d.origin with
        | .immediate _ => none
        | .triggered n => some n
        | .cadence n => some n
        | .maintenance n => some n
      let value : Option Word16 := match d.kind with
        | .sample v _ => some v
        | .calibrationDone v => some v
        | _ => none
      let kind : Nat := match d.kind with
        | .sample _ _ => 0
        | .aborted _ => 1
        | _ => 2
      let served : Nat := match d.origin with
        | .immediate _ => 0
        | .triggered _ => 1
        | .cadence _ => 2
        | .maintenance _ => 3
      ((w 48).toNat = 1 + 2 * kind + 16 * served ∧ w 51 ++ w 50 = e.seq)
      ∧ (bit 49 0 = tag.isSome ∧ bit 49 1 = d.place.isSome ∧ bit 49 2 = value.isSome ∧ bit 49 3 = decide (kind = 0)
        ∧ bit 49 4 = decide (kind = 1) ∧ bit 49 5 = decide (kind = 2) ∧ bit 49 6 = count.isSome
        ∧ bit 49 7 = e.lossBefore.isSome)
      ∧ (w 52).toNat = (match d.target with
        | .channel c => c.val
        | .calibration t => 128 + (if t.kind = .gain then 16 else 0) + t.gain.val)
      ∧ (w 53 = tag.getD 0 ∧ (w 54).toNat = (match d.place with
        | some p => 16 * p.group.val + p.position % 8
        | none => 0))
      ∧ (w 55).toNat = (match d.kind with
        | .sample _ flags => flags.clip.toNat + 2 * flags.uncal.toNat + 4 * flags.dev.toNat
        | .aborted .host => 1
        | .aborted .disabled => 2
        | .aborted .reference => 3
        | .aborted .stop => 4
        | .calibrationDone _ => 1
        | .calibrationFail => 2)
      ∧ ((w 56).toNat = (count.getD 0).toNat ∧ w 57 = e.lossBefore.getD 0 ∧ w 59 ++ w 58 = value.getD 0
        ∧ w 63 ++ w 62 ++ w 61 ++ w 60 = d.timestamp))
    ∧ (∀ k : Fin 40, w (64 + k.val) = s.command.staging[k])
    ∧ (∀ c : Fin 16, ((s.monitors[c]).latest = none → w (128 + 2 * c.val) = 0x00 ∧ w (129 + 2 * c.val) = 0x80)
      ∧ ∀ l, (s.monitors[c]).latest = some l → w (129 + 2 * c.val) ++ w (128 + 2 * c.val) = l.value)
    ∧ (∀ a : Byte, (a.toNat = 15 ∨ a.toNat = 29 ∨ 39 ≤ a.toNat ∧ a.toNat < 48 ∨ 104 ≤ a.toNat ∧ a.toNat < 128
      ∨ 160 ≤ a.toNat) → s.windowByte a = 0x00)
    ∧ [Scheduler.starting, .stopped, .running, .pausing, .paused].map Scheduler.code = [0, 1, 2, 3, 4]
    ∧ [Converter.idle, .settling, .converting, .calibrating, .recovering, .halted].map Converter.code =
      [0, 1, 2, 3, 4, 5]
    ∧ [ResultCode.ok, .badState, .badArg, .full, .noPhase, .refused, .idle, .holdoff, .stale, .empty, .inUse, .disabled,
      .notReady].map ResultCode.code = (List.range 13).map (BitVec.ofNat 8)
    ∧ [DetailCode.none, .enableCode, .posInput, .negInput, .sameInput, .gain, .settling, .offset, .band].map
      DetailCode.code = (List.range 9).map (BitVec.ofNat 8)
    ∧ [DetailCode.memberCount, .memberChannel, .duplicate, .edgeCode, .triggerGroup, .groupUndefined, .length, .slotCode,
      .noClass, .strandedImmediate, .strandedTriggered, .strandedCadence, .strandedMaintenance, .triggerBound,
      .requestHeld].map DetailCode.code =
        [0x10, 0x11, 0x12, 0x18, 0x19, 0x1A, 0x20, 0x21, 0x22, 0x24, 0x25, 0x26, 0x27, 0x30, 0x31]

/-- The end of a read with the modifier: each channel both of whose bytes were clocked out, and whose value was present in
the snapshot, takes that value as its reference and is evaluated with its latest value as it stands; no other channel's
record changes. One that ends before its address byte has no snapshot and changes no record. The presence held in the
snapshot (log 12), and this row for a read without a snapshot (log 15), are the model's choices (R131, R132, R161,
R165). -/
def Obligations.AcknowledgingReadSetsReferences : Prop :=
  ∀ (bits : Fin 8) (s : State), s.port.csnLow = true → s.port.acknowledging = true →
    let closed : Port :=
      { s.port with
        csnLow := false, phase := .waiting, bits := [], snapshot := none, clocked := Vector.replicate 32 false }
    let seen (c : Fin 16) : Bool := s.port.clocked[2 * c.val]'(by omega) && s.port.clocked[2 * c.val + 1]'(by omega)
    (s.port.snapshot = none → exec (.acknowledgingRead bits) s = .next { s with port := closed })
    ∧ ∀ w : ReadSnapshot, s.port.snapshot = some w →
      let told : State := { s with
        monitors := Vector.ofFn fun c : Fin 16 =>
          if seen c && (w.latest[c]).isSome then { s.monitors[c] with reference := w.latest[c] } else s.monitors[c] }
      exec (.acknowledgingRead bits) s = .next { s with
        monitors := Vector.ofFn fun c : Fin 16 =>
          if seen c && (w.latest[c]).isSome && told.deviates c then { told.monitors[c] with inSet := true }
          else told.monitors[c]
        port := closed }

/-! ### Resets and the start-up interval -/

/-- RSTN low, POR and DEVICE_RESET return every block to its reset values; RSTN low and DEVICE_RESET keep the calibration
records; the last trigger levels come from the pins at the end of the reset. The model's choices in it: the direction and
the pointer kept by RSTN low and POR (log 2), the transaction that goes on past CMD after a DEVICE_RESET (log 10), the port
that waits for the next falling edge of CSN after RSTN low and POR (log 11), and the levels latched at the end of each of
the two resets by a pin (log 19) (R48, R86, R94, R137, R145, R146, R159). -/
def Obligations.ResetsReturnEveryBlock : Prop :=
  ∀ s : State,
    let fresh : Vector TriggerInput 2 := Vector.ofFn fun i : Fin 2 =>
      { record := { edge := .off, group := 0, holdoff := 0 }, count := 0, lastLevel := s.pins.trig[i] }
    let abandoned : Port :=
      { s.port with
        phase := .waiting, acknowledge := false, bits := [], snapshot := none, clocked := Vector.replicate 32 false }
    let levels : Vector TriggerInput 2 := Vector.ofFn fun i : Fin 2 =>
      { s.triggers[i] with lastLevel := s.pins.trig[i] }
    exec .rstnLow s = .next { State.reset with
        calibration := s.calibration
        triggers := fresh
        port := abandoned
        pending := s.pending
        pins := { s.pins with rstnLow := true } }
      ∧ exec .por s = .next { State.reset with
        triggers := fresh
        port := abandoned
        pending := s.pending
        pins := { s.pins with supplyDown := true } }
      ∧ (s.takesByteAt 0x14 → exec .deviceReset s = .next { State.reset with
        calibration := s.calibration
        triggers := fresh
        port := s.port.past
        pending := s.pending
        pins := s.pins })
      ∧ (s.pins.rstnLow = true →
        exec .rstnRise s = .next { s with triggers := levels, pins := { s.pins with rstnLow := false } })
      ∧ (s.pins.supplyDown = true →
        exec .supplyEstablished s = .next { s with triggers := levels, pins := { s.pins with supplyDown := false } })

/-- The end of the start-up interval: STOPPED with RUN_CHANGE; a reference out of its window halts the converter and sets
REF_FAULT at the same moment. The level held apart from the condition, and an interval that runs only when RSTN is high and
the supply established, are the model's choices (logs 17 and 19) (R90, R138, R147). -/
def Obligations.EndOfStartingEntersStopped : Prop :=
  ∀ s : State, s.scheduler = .starting → s.held = false →
    exec .endOfStarting s = .next { s with
      scheduler := .stopped
      intervalSel := s.tickSel
      refCondition := s.pins.refOutside
      seq := if s.pins.refOutside then { s.seq with converter := .halted } else s.seq
      alerts := s.alerts.also fun
        | .runChange => true
        | .refFault => s.pins.refOutside
        | _ => false }

/-! ### Time and the trigger inputs -/

/-- A tick: the timebase, every armed countdown and every holdoff move by one, and the next interval takes the selection.
Expiries still due from an earlier tick are taken first, and the end of a holdoff has no effect beyond the tick's own: both
are the model's choice (log 5) (R35, R37, R41, R50). -/
def Obligations.TickMovesEveryCount : Prop :=
  ∀ (c : Fin 16) (i : Fin 2) (s : State),
    (s.scheduler ≠ .starting → s.nextExpiry = none →
      exec .tick s = .next { s with
        timebase := s.timebase + 1
        intervalSel := s.tickSel
        cadence := Vector.ofFn fun d : Fin 16 =>
          if (s.cadence[d]).armed ∧ (s.cadence[d]).countdown ≠ 0 then
            { armed := true, countdown := (s.cadence[d]).countdown - 1 }
          else s.cadence[d]
        triggers := Vector.ofFn fun j : Fin 2 =>
          { s.triggers[j] with count := if (s.triggers[j]).count = 0 then 0 else (s.triggers[j]).count - 1 } })
    ∧ (s.nextExpiry = some c → (s.channels[c]).period ≠ 0 → exec .tick s = exec .tick (s.expire c))
    ∧ ((s.triggers[i]).count = 0 → exec (.holdoffEnd i) s = .next s)

/-- An expiry reloads the period whatever becomes of its demand: dropped with CAD_OVERRUN, coalesced in place with
CAD_OVERRUN, or queued, after which arbitration is taken where the converter is free (R26, R41, R42). -/
def Obligations.ExpiryReloadsAndPosts : Prop :=
  ∀ (c : Fin 16) (s : State), s.nextExpiry = some c →
    let loaded : State :=
      { s with cadence := s.cadence.set c { armed := true, countdown := (s.channels[c]).period } }
    let flagged : State := { loaded with
      alerts := s.alerts.also fun
        | .cadOverrun => true
        | _ => false }
    (s.active .cadence = false → exec (.cadenceExpiry c) s = .next flagged)
    ∧ (s.active .cadence = true → pendingFor c s.queues.cadence = true → exec (.cadenceExpiry c) s = .next
      { flagged with queues := { s.queues with cadence := mergeInto c s.queues.cadence } })
    ∧ (s.active .cadence = true → pendingFor c s.queues.cadence = false → exec (.cadenceExpiry c) s = .next
      ({ loaded with queues := { s.queues with cadence := s.queues.cadence ++ [Merged.fresh c] } } : State).arbitrate)

/-- A level change on a trigger input is recorded; it is accepted exactly when it matches the edge selection, the scheduler
takes demands and the input is out of holdoff, and then loads the holdoff and hands on one demand. That while the part is
held in reset only the pin changes is the model's choice, deduced from R48 and R146 (log 19) (R27, R47 to R50, R146). -/
def Obligations.EdgesAreRecordedAndAccepted : Prop :=
  ∀ (i : Fin 2) (level : Bool) (s : State), s.pins.trig[i] ≠ level →
    let input := s.triggers[i]
    let g := input.record.group
    let seen : State := { s with
      pins := { s.pins with trig := s.pins.trig.set i level }
      triggers := s.triggers.set i { input with lastLevel := level } }
    let matched : Prop := input.record.edge = .both ∨ input.record.edge = (if level then .rising else .falling)
    let accepted : Prop := input.lastLevel ≠ level ∧ s.scheduler.accepts = true ∧ input.count = 0 ∧ matched
    let held : State := { seen with
      triggers := s.triggers.set i { input with lastLevel := level, count := input.record.holdoff } }
    let flagged : State := { held with
      alerts := s.alerts.also fun
        | .trgOverrun => true
        | _ => false }
    (s.held = true → exec (.triggerEdge i level) s = .next
      { s with pins := { s.pins with trig := s.pins.trig.set i level } })
    ∧ (s.held = false → ¬ accepted → exec (.triggerEdge i level) s = .next seen)
    ∧ (s.held = false → accepted → s.active .triggered = false →
      exec (.triggerEdge i level) s = .next flagged)
    ∧ (s.held = false → accepted → s.active .triggered = true → pendingFor g s.queues.triggered = true →
      exec (.triggerEdge i level) s = .next
        { flagged with queues := { s.queues with triggered := mergeInto g s.queues.triggered } })
    ∧ (s.held = false → accepted → s.active .triggered = true → pendingFor g s.queues.triggered = false →
      exec (.triggerEdge i level) s = .next
        ({ held with
          queues := { s.queues with triggered := s.queues.triggered ++ [Merged.fresh g] } } : State).arbitrate)

/-! ### The sequencer and the reference -/

/-- The onset of the reference condition by the converter state, in every scheduler state but STARTING, and its recovery,
which only the condition follows. The level at the pins held apart from the condition, and an onset taken again while the
condition is present, are the model's choices (log 17) (R85, R89, R90, R91). -/
def Obligations.ReferenceOnsetHaltsTheConverter : Prop :=
  ∀ s : State,
    let ends : Bool := decide (s.seq.converter = .settling ∨ s.seq.converter = .converting
      ∨ s.seq.converter = .calibrating ∨ s.seq.converter = .recovering ∧ s.seq.current.isSome)
    let drafts : List Draft := if ends then (s.workDraft .reference).toList else []
    (s.scheduler = .starting →
      exec .referenceOnset s = .next { s with pins := { s.pins with refOutside := true } })
    ∧ (s.scheduler ≠ .starting → exec .referenceOnset s = .next { s with
        pins := { s.pins with refOutside := true }
        refCondition := true
        scheduler := s.scheduler.afterEnd ends
        seq :=
          if s.seq.converter = .recovering then
            { (if ends then s.seq.ended .recovering else s.seq) with haltPending := true }
          else if ends then s.seq.ended .halted
          else { s.seq with converter := .halted }
        ring := s.ring.handAll drafts
        alerts := s.alerts.also fun
          | .refFault => true
          | .aborted => !drafts.isEmpty
          | .immDone => ends && s.seq.holdsImmediate
          | .ringLoss => s.ring.loses drafts
          | .runChange => ends && decide (s.scheduler = .pausing)
          | _ => false })
    ∧ exec .referenceRecovery s = .next { s with
        pins := { s.pins with refOutside := false }
        refCondition := false }

/-- The end of settling samples the member: CONVERTING, with the timebase as its sampling instant. Its completion sets the
latest value, evaluates the channel and produces the SAMPLE entry; the members after it whose channels are disabled are
skipped with one DISABLED entry each, and then the next enabled one starts, or, when none is left, the request ends and
arbitration is taken (R76 to R78, R102 to R104, R125 to R127, R141). -/
def Obligations.MembersAreSampledAndCompleted : Prop :=
  ∀ (raw : Word16) (r : Request) (c d : Fin 16) (skipped rest : List (Fin 16)) (m : MemberSnapshot) (s : State),
    let k := s.calibration[m.gain]
    let told : State := { s with
      monitors := s.monitors.set c
        { s.monitors[c] with latest := some { value := correct raw k, timestamp := s.seq.sampledAt } } }
    let place (p : Nat) : Option Place := r.group?.map fun g => { group := g, position := p }
    let entry : Draft :=
      { origin := r.origin
        target := .channel c
        place := place s.seq.position
        timestamp := s.seq.sampledAt
        kind := .sample (correct raw k)
          { clip := clipFlag raw k, uncal := decide (k.validity ≠ .calibrated), dev := told.deviates c } }
    let skip (p : Nat) (e : Fin 16) : Draft :=
      { origin := r.origin
        target := .channel e
        place := place (s.seq.position + 1 + p)
        timestamp := s.timebase
        kind := .aborted .disabled }
    let drafts : List Draft := entry :: skipped.mapIdx skip
    (s.seq.converter = .settling → exec .endOfSettling s = .next
      { s with seq := { s.seq with converter := .converting, sampledAt := s.timebase } })
    ∧ (s.seq.converter = .converting → s.seq.current = some r → s.seq.members[s.seq.position]? = some c →
      s.seq.snapshot = some m → (∀ e ∈ skipped, (s.channels[e]).enabled = false) →
      (s.seq.members.drop (s.seq.position + 1) = skipped ++ d :: rest → (s.channels[d]).enabled = true →
        exec (.conversionCompletion raw) s = .next { s with
          monitors := told.evaluated c
          ring := s.ring.handAll drafts
          seq := s.seq.settlingOn s.channels[d] (s.seq.position + 1 + skipped.length)
          alerts := s.alerts.also fun
            | .ringLoss => s.ring.loses drafts
            | .aborted => !skipped.isEmpty
            | _ => false })
      ∧ (s.seq.members.drop (s.seq.position + 1) = skipped →
        exec (.conversionCompletion raw) s = .next ({ s with
          monitors := told.evaluated c
          ring := s.ring.handAll drafts
          seq := { s.seq.ended .idle with position := s.seq.position + skipped.length }
          scheduler := s.scheduler.afterEnd true
          alerts := s.alerts.also fun
            | .ringLoss => s.ring.loses drafts
            | .aborted => !skipped.isEmpty
            | .immDone => r.isImmediate
            | .runChange => decide (s.scheduler = .pausing)
            | _ => false } : State).arbitrate))

/-- The completion of a calibration: the record by its outcome, CAL_DONE or CAL_FAIL, one CALIBRATION entry, the end of the
request and arbitration; no monitor record changes (R79, R95 to R99). -/
def Obligations.CalibrationsComplete : Prop :=
  ∀ (raw : Word16) (request : Merged CalTarget) (s : State), s.seq.converter = .calibrating →
    s.seq.current = some (.maintenance request) →
    let g := request.target.gain
    let record := s.calibration[g]
    let outcome := calOutcome request.target.kind raw record
    let after : CalRecord :=
      match outcome with
      | none => { record with validity := .failed }
      | some v =>
        if request.target.kind = .offset then
          { validity := .calibrated, offset := v, gain := record.gain, calibratedAt := some s.timebase }
        else { validity := .calibrated, offset := record.offset, gain := v, calibratedAt := some s.timebase }
    let entry : Draft :=
      { origin := .maintenance request.count
        target := .calibration request.target
        place := none
        timestamp := s.timebase
        kind := match outcome with
          | some v => .calibrationDone v
          | none => .calibrationFail }
    exec (.calibrationCompletion raw) s = .next ({ s with
      calibration := s.calibration.set g after
      ring := s.ring.hand entry
      seq := s.seq.ended .idle
      scheduler := s.scheduler.afterEnd true
      alerts := s.alerts.also fun
        | .calDone => outcome.isSome
        | .calFail => outcome.isNone
        | .ringLoss => s.ring.full
        | .runChange => decide (s.scheduler = .pausing)
        | _ => false } : State).arbitrate

/-- The end of a recovery: HALTED for a pending halt; a group that is still current goes on, its disabled members skipped
with one DISABLED entry each, with its next enabled member or, when none is left, ends and arbitration is taken; otherwise
IDLE and arbitration (R76, R81). -/
def Obligations.RecoveriesEnd : Prop :=
  ∀ (r : Request) (c : Fin 16) (skipped rest : List (Fin 16)) (s : State), s.seq.converter = .recovering →
    let skip (p : Nat) (e : Fin 16) : Draft :=
      { origin := r.origin
        target := .channel e
        place := r.group?.map fun g => { group := g, position := s.seq.position + p }
        timestamp := s.timebase
        kind := .aborted .disabled }
    let drafts : List Draft := skipped.mapIdx skip
    (s.seq.haltPending = true → exec .endOfRecovery s = .next
      { s with seq := { s.seq with converter := .halted, haltPending := false } })
    ∧ (s.seq.haltPending = false → s.seq.current = some r → (∀ e ∈ skipped, (s.channels[e]).enabled = false) →
      (s.seq.members.drop s.seq.position = skipped ++ c :: rest → (s.channels[c]).enabled = true →
        exec .endOfRecovery s = .next { s with
          ring := s.ring.handAll drafts
          seq := s.seq.settlingOn s.channels[c] (s.seq.position + skipped.length)
          alerts := s.alerts.also fun
            | .ringLoss => s.ring.loses drafts
            | .aborted => !skipped.isEmpty
            | _ => false })
      ∧ (s.seq.members.drop s.seq.position = skipped → skipped ≠ [] →
        exec .endOfRecovery s = .next ({ s with
          ring := s.ring.handAll drafts
          seq := { s.seq.ended .idle with position := s.seq.position + skipped.length - 1 }
          scheduler := s.scheduler.afterEnd true
          alerts := s.alerts.also fun
            | .ringLoss => s.ring.loses drafts
            | .aborted => true
            | .immDone => r.isImmediate
            | .runChange => decide (s.scheduler = .pausing)
            | _ => false } : State).arbitrate))
    ∧ (s.seq.haltPending = false → s.seq.current = none → exec .endOfRecovery s = .next
      ({ s with seq := { s.seq with converter := .idle } } : State).arbitrate)

/-! ### Arbitration and the ring -/

/-- The search ends at the first slot, from the pointer on and modulo the active length, whose class has a request waiting,
and finds none only when no slot in use has one (R64). -/
def Obligations.SearchFindsTheFirstWaitingSlot : Prop :=
  ∀ (slot : Nat) (c : ServiceClass) (s : State),
    let bank := s.arbiter.activeBank
    let at' (k : Nat) : Option Slot := bank.slots[(s.arbiter.pointer + k) % bank.length]?
    (s.search = some (slot, c) ↔ ∃ k, k < bank.length ∧ slot = (s.arbiter.pointer + k) % bank.length
        ∧ at' k = some (.serve c) ∧ s.queues.waiting c = true
        ∧ ∀ j < k, ∀ e, at' j = some (.serve e) → s.queues.waiting e = false)
    ∧ (s.search = none ↔ ∀ k < bank.length, ∀ e, at' k = some (.serve e) → s.queues.waiting e = false)

/-- Arbitration does nothing unless the scheduler is RUNNING and the converter IDLE with no request, or when no request
waits. A grant takes the head of the queue found and moves the pointer past the slot. A calibration enters CALIBRATING. A
channel or group request captures its list, skips its leading disabled members with one DISABLED entry each, in order, and
starts the first enabled one, or, when it has none, ends and the next arbitration is taken (R15, R30, R62, R64 to R66, R75
to R79). -/
def Obligations.ArbitrationGrantsTheHead : Prop :=
  ∀ (slot : Nat) (served : ServiceClass) (r : Request) (q : Queues) (skipped rest : List (Fin 16)) (c : Fin 16)
    (s : State),
    let granted : State := { s with
      queues := q
      arbiter := { s.arbiter with pointer := (slot + 1) % s.arbiter.activeBank.length }
      seq := { s.seq with
        current := some r
        captured := r.group?.map fun g => s.groups[g]
        position := 0
        snapshot := none } }
    let skip (p : Nat) (e : Fin 16) : Draft :=
      { origin := r.origin
        target := .channel e
        place := r.group?.map fun g => { group := g, position := p }
        timestamp := s.timebase
        kind := .aborted .disabled }
    let drafts : List Draft := skipped.mapIdx skip
    (s.free = false → s.arbitrate = s) ∧ (s.queues = .none → s.arbitrate = s)
    ∧ (s.free = true → s.search = some (slot, served) → s.queues.take served = some (r, q) →
      (r.isCalibration = true → s.arbitrate = { granted with seq := { granted.seq with converter := .calibrating } })
      ∧ (r.isCalibration = false → (∀ e ∈ skipped, (s.channels[e]).enabled = false) →
        (granted.seq.members = skipped ++ c :: rest → (s.channels[c]).enabled = true →
          s.arbitrate = { granted with
            seq := granted.seq.settlingOn s.channels[c] skipped.length
            ring := s.ring.handAll drafts
            alerts := s.alerts.also fun
              | .aborted => !skipped.isEmpty
              | .ringLoss => s.ring.loses drafts
              | _ => false })
        ∧ (granted.seq.members = skipped →
          s.arbitrate = ({ granted with
            seq := { granted.seq.ended .idle with position := skipped.length - 1 }
            ring := s.ring.handAll drafts
            alerts := s.alerts.also fun
              | .aborted => !skipped.isEmpty
              | .immDone => r.isImmediate
              | .ringLoss => s.ring.loses drafts
              | _ => false } : State).arbitrate)))

/-- An entry handed to the ring: placed with the next sequence number and the pending loss-before; discarded and counted
under HOLD when full; placed after the head is dropped and counted under OVERWRITE; RING_LOSS set exactly at a loss (R110 to
R114). -/
def Obligations.EntriesArePlacedDiscardedOrReplace : Prop :=
  ∀ (d : Draft) (s : State),
    let r := s.ring
    let entry : Entry :=
      { seq := r.nextSeq, lossBefore := if r.pendingLoss = 0 then none else some r.pendingLoss, draft := d }
    let lost : Word16 := if r.lossCount.toNat = 65535 then r.lossCount else r.lossCount + 1
    (r.entries.length < 64 → s.produce d = { s with ring := { r with
      entries := r.entries ++ [entry], nextSeq := r.nextSeq + 1, pendingLoss := 0 } })
    ∧ (64 ≤ r.entries.length → r.policy = .hold → s.produce d = { s with
      ring := { r with
        lossCount := lost
        pendingLoss := if r.pendingLoss.toNat = 255 then r.pendingLoss else r.pendingLoss + 1 }
      alerts := s.alerts.also fun
        | .ringLoss => true
        | _ => false })
    ∧ (64 ≤ r.entries.length → r.policy = .overwrite → s.produce d = { s with
      ring := { r with
        entries := r.entries.tail ++ [entry]
        nextSeq := r.nextSeq + 1
        pendingLoss := 0
        lossCount := lost }
      alerts := s.alerts.also fun
        | .ringLoss => true
        | _ => false })

/-! ### Arithmetic -/

/-- The corrected value: the exact product over 32768 rounded to the nearest integer, halves away from zero, then clipped;
CLIP exactly for a raw code at an end or a value the clip changed; the nominal record subtracts 32768 (R102, R103). -/
def Obligations.CorrectionRoundsThenClips : Prop :=
  ∀ (raw : Word16) (r : CalRecord),
    let x : Int := (raw.toNat : Int) - 32768 - r.offset.toInt
    let p : Int := x * r.gain.toNat
    (r.Valid → -34816 ≤ x ∧ x ≤ 34815)
    ∧ (∃ y : Int, (2 * (p - y * 32768)).natAbs ≤ 32768
      ∧ (2 * (p - y * 32768) = 32768 → p < 0) ∧ (2 * (p - y * 32768) = -32768 → 0 < p)
      ∧ (correct raw r).toInt = (if y < -32768 then -32768 else if 32767 < y then 32767 else y)
      ∧ (clipFlag raw r = true ↔ raw.toNat = 0 ∨ raw.toNat = 65535 ∨ y < -32768 ∨ 32767 < y))
    ∧ (correct raw CalRecord.nominal).toInt = (raw.toNat : Int) - 32768

/-- An OFFSET calibration stores the raw code less 32768 exactly when it lies from −2048 to 2048; a GAIN calibration stores
24576 × 32768 over the span, rounded with halves up, exactly for spans from 22342 to 27307 (R97, R98). -/
def Obligations.CalibrationOutcomes : Prop :=
  ∀ (raw : Word16) (r : CalRecord),
    let d : Int := (raw.toNat : Int) - 32768 - r.offset.toInt
    ((calOutcome .offset raw r).isSome = true ↔ 30720 ≤ raw.toNat ∧ raw.toNat ≤ 34816)
    ∧ (∀ v, calOutcome .offset raw r = some v → v.toInt = (raw.toNat : Int) - 32768)
    ∧ ((calOutcome .gain raw r).isSome = true ↔ 22342 ≤ d ∧ d ≤ 27307)
    ∧ ∀ v, calOutcome .gain raw r = some v → 29491 ≤ v.toNat ∧ v.toNat ≤ 36045
      ∧ -d ≤ 2 * (24576 * 32768 - (v.toNat : Int) * d) ∧ 2 * (24576 * 32768 - (v.toNat : Int) * d) < d

/-! ### Invariants that every step keeps -/

/-- The form of the ring: at most 64 entries with consecutive sequence numbers up to the next one, and the watermark in
its range (R107, R110). -/
def Obligations.RingFormIsKept : Prop :=
  ∀ s t : State, s.ring.Form → step s = .next t → t.ring.Form

/-- The ranges of the calibration records (R94 to R96). -/
def Obligations.CalibrationRecordsStayValid : Prop :=
  ∀ s t : State, s.CalibrationValid → step s = .next t → t.CalibrationValid

/-- Every channel whose deviation condition holds is in the deviation set, and DEVIATION is set exactly while the set is
not empty (R127). -/
def Obligations.DeviationsStayReported : Prop :=
  ∀ s t : State, s.DeviationReported → step s = .next t →
    t.DeviationReported ∧ (t.deviationFlag = true ↔ ∃ c : Fin 16, (t.monitors[c]).inSet = true)

/-- A channel is armed exactly while the scheduler takes demands, it is enabled and its period is not 0 (R39, R43). -/
def Obligations.CadenceFollowsTheTableAndScheduler : Prop :=
  ∀ s t : State, s.CadenceFollowsTable → step s = .next t → t.CadenceFollowsTable

/-- The tables, the banks, the queues, the sequencer, the scheduler and the halt stay in agreement, and no request waits
while the scheduler is RUNNING and the converter IDLE (R14, R19, R20, R55, R57, R68, R73 to R75, R85, R136, R141). -/
def Obligations.ScheduleStaysSound : Prop :=
  ∀ s t : State, s.ScheduleSound → step s = .next t → t.ScheduleSound

/-- Every entry of the ring has the fields its class, kind and request give it (R108, R109). -/
def Obligations.EntriesStayValid : Prop :=
  ∀ s t : State, s.ScheduleSound → s.EntriesValid → step s = .next t → t.EntriesValid

end Statements
end

