-- ==== Sys2Proof/Laws/State.lean ====
section
/-! SUPPORT. Each field after each record update of the state, so that no proof unfolds an update. -/

namespace Sys2Proof.Machine

variable (s : State)

/-! ### The pointer past a completed data byte: `State.advance` -/

@[simp] theorem State.advance_channels : (s.advance).channels = s.channels := rfl
@[simp] theorem State.advance_groups : (s.advance).groups = s.groups := rfl
@[simp] theorem State.advance_timebase : (s.advance).timebase = s.timebase := rfl
@[simp] theorem State.advance_tickSel : (s.advance).tickSel = s.tickSel := rfl
@[simp] theorem State.advance_intervalSel : (s.advance).intervalSel = s.intervalSel := rfl
@[simp] theorem State.advance_cadence : (s.advance).cadence = s.cadence := rfl
@[simp] theorem State.advance_triggers : (s.advance).triggers = s.triggers := rfl
@[simp] theorem State.advance_queues : (s.advance).queues = s.queues := rfl
@[simp] theorem State.advance_arbiter : (s.advance).arbiter = s.arbiter := rfl
@[simp] theorem State.advance_seq : (s.advance).seq = s.seq := rfl
@[simp] theorem State.advance_refCondition : (s.advance).refCondition = s.refCondition := rfl
@[simp] theorem State.advance_calibration : (s.advance).calibration = s.calibration := rfl
@[simp] theorem State.advance_ring : (s.advance).ring = s.ring := rfl
@[simp] theorem State.advance_monitors : (s.advance).monitors = s.monitors := rfl
@[simp] theorem State.advance_scheduler : (s.advance).scheduler = s.scheduler := rfl
@[simp] theorem State.advance_alerts : (s.advance).alerts = s.alerts := rfl
@[simp] theorem State.advance_port : (s.advance).port = s.port.past := rfl
@[simp] theorem State.advance_command : (s.advance).command = s.command := rfl
@[simp] theorem State.advance_pins : (s.advance).pins = s.pins := rfl
@[simp] theorem State.advance_pending : (s.advance).pending = s.pending := rfl

/-! ### A latched flag raised: `State.raise` -/

@[simp] theorem State.raise_channels (f : Flag) : (s.raise f).channels = s.channels := rfl
@[simp] theorem State.raise_groups (f : Flag) : (s.raise f).groups = s.groups := rfl
@[simp] theorem State.raise_timebase (f : Flag) : (s.raise f).timebase = s.timebase := rfl
@[simp] theorem State.raise_tickSel (f : Flag) : (s.raise f).tickSel = s.tickSel := rfl
@[simp] theorem State.raise_intervalSel (f : Flag) : (s.raise f).intervalSel = s.intervalSel := rfl
@[simp] theorem State.raise_cadence (f : Flag) : (s.raise f).cadence = s.cadence := rfl
@[simp] theorem State.raise_triggers (f : Flag) : (s.raise f).triggers = s.triggers := rfl
@[simp] theorem State.raise_queues (f : Flag) : (s.raise f).queues = s.queues := rfl
@[simp] theorem State.raise_arbiter (f : Flag) : (s.raise f).arbiter = s.arbiter := rfl
@[simp] theorem State.raise_seq (f : Flag) : (s.raise f).seq = s.seq := rfl
@[simp] theorem State.raise_refCondition (f : Flag) : (s.raise f).refCondition = s.refCondition := rfl
@[simp] theorem State.raise_calibration (f : Flag) : (s.raise f).calibration = s.calibration := rfl
@[simp] theorem State.raise_ring (f : Flag) : (s.raise f).ring = s.ring := rfl
@[simp] theorem State.raise_monitors (f : Flag) : (s.raise f).monitors = s.monitors := rfl
@[simp] theorem State.raise_scheduler (f : Flag) : (s.raise f).scheduler = s.scheduler := rfl
@[simp] theorem State.raise_alerts (f : Flag) :
    (s.raise f).alerts = { s.alerts with flags := s.alerts.flags.set f } := rfl
@[simp] theorem State.raise_port (f : Flag) : (s.raise f).port = s.port := rfl
@[simp] theorem State.raise_command (f : Flag) : (s.raise f).command = s.command := rfl
@[simp] theorem State.raise_pins (f : Flag) : (s.raise f).pins = s.pins := rfl
@[simp] theorem State.raise_pending (f : Flag) : (s.raise f).pending = s.pending := rfl

/-! ### What a command leaves apart from its own effect: `State.answered` -/

@[simp] theorem State.answered_channels (code : Byte) (r : ResultCode) (d : DetailCode) :
    (s.answered code r d).channels = s.channels := rfl
@[simp] theorem State.answered_groups (code : Byte) (r : ResultCode) (d : DetailCode) :
    (s.answered code r d).groups = s.groups := rfl
@[simp] theorem State.answered_timebase (code : Byte) (r : ResultCode) (d : DetailCode) :
    (s.answered code r d).timebase = s.timebase := rfl
@[simp] theorem State.answered_tickSel (code : Byte) (r : ResultCode) (d : DetailCode) :
    (s.answered code r d).tickSel = s.tickSel := rfl
@[simp] theorem State.answered_intervalSel (code : Byte) (r : ResultCode) (d : DetailCode) :
    (s.answered code r d).intervalSel = s.intervalSel := rfl
@[simp] theorem State.answered_cadence (code : Byte) (r : ResultCode) (d : DetailCode) :
    (s.answered code r d).cadence = s.cadence := rfl
@[simp] theorem State.answered_triggers (code : Byte) (r : ResultCode) (d : DetailCode) :
    (s.answered code r d).triggers = s.triggers := rfl
@[simp] theorem State.answered_queues (code : Byte) (r : ResultCode) (d : DetailCode) :
    (s.answered code r d).queues = s.queues := rfl
@[simp] theorem State.answered_arbiter (code : Byte) (r : ResultCode) (d : DetailCode) :
    (s.answered code r d).arbiter = s.arbiter := rfl
@[simp] theorem State.answered_seq (code : Byte) (r : ResultCode) (d : DetailCode) :
    (s.answered code r d).seq = s.seq := rfl
@[simp] theorem State.answered_refCondition (code : Byte) (r : ResultCode) (d : DetailCode) :
    (s.answered code r d).refCondition = s.refCondition := rfl
@[simp] theorem State.answered_calibration (code : Byte) (r : ResultCode) (d : DetailCode) :
    (s.answered code r d).calibration = s.calibration := rfl
@[simp] theorem State.answered_ring (code : Byte) (r : ResultCode) (d : DetailCode) :
    (s.answered code r d).ring = s.ring := rfl
@[simp] theorem State.answered_monitors (code : Byte) (r : ResultCode) (d : DetailCode) :
    (s.answered code r d).monitors = s.monitors := rfl
@[simp] theorem State.answered_scheduler (code : Byte) (r : ResultCode) (d : DetailCode) :
    (s.answered code r d).scheduler = s.scheduler := rfl
@[simp] theorem State.answered_alerts (code : Byte) (r : ResultCode) (d : DetailCode) :
    (s.answered code r d).alerts = s.alerts.also fun | .cmdError => decide (r ≠ .ok) | _ => false := rfl
@[simp] theorem State.answered_port (code : Byte) (r : ResultCode) (d : DetailCode) :
    (s.answered code r d).port = s.port.past := rfl
@[simp] theorem State.answered_command (code : Byte) (r : ResultCode) (d : DetailCode) :
    (s.answered code r d).command = { s.command with result := r, detail := d, echo := code } := rfl
@[simp] theorem State.answered_pins (code : Byte) (r : ResultCode) (d : DetailCode) :
    (s.answered code r d).pins = s.pins := rfl
@[simp] theorem State.answered_pending (code : Byte) (r : ResultCode) (d : DetailCode) :
    (s.answered code r d).pending = s.pending := rfl

/-! ### A channel disarmed: `State.disarm` -/

@[simp] theorem State.disarm_channels (c : Fin 16) : (s.disarm c).channels = s.channels := rfl
@[simp] theorem State.disarm_groups (c : Fin 16) : (s.disarm c).groups = s.groups := rfl
@[simp] theorem State.disarm_timebase (c : Fin 16) : (s.disarm c).timebase = s.timebase := rfl
@[simp] theorem State.disarm_tickSel (c : Fin 16) : (s.disarm c).tickSel = s.tickSel := rfl
@[simp] theorem State.disarm_intervalSel (c : Fin 16) : (s.disarm c).intervalSel = s.intervalSel := rfl
@[simp] theorem State.disarm_cadence (c : Fin 16) :
    (s.disarm c).cadence = s.cadence.set c { armed := false, countdown := 0 } := rfl
@[simp] theorem State.disarm_triggers (c : Fin 16) : (s.disarm c).triggers = s.triggers := rfl
@[simp] theorem State.disarm_queues (c : Fin 16) : (s.disarm c).queues = s.queues := rfl
@[simp] theorem State.disarm_arbiter (c : Fin 16) : (s.disarm c).arbiter = s.arbiter := rfl
@[simp] theorem State.disarm_seq (c : Fin 16) : (s.disarm c).seq = s.seq := rfl
@[simp] theorem State.disarm_refCondition (c : Fin 16) : (s.disarm c).refCondition = s.refCondition := rfl
@[simp] theorem State.disarm_calibration (c : Fin 16) : (s.disarm c).calibration = s.calibration := rfl
@[simp] theorem State.disarm_ring (c : Fin 16) : (s.disarm c).ring = s.ring := rfl
@[simp] theorem State.disarm_monitors (c : Fin 16) : (s.disarm c).monitors = s.monitors := rfl
@[simp] theorem State.disarm_scheduler (c : Fin 16) : (s.disarm c).scheduler = s.scheduler := rfl
@[simp] theorem State.disarm_alerts (c : Fin 16) : (s.disarm c).alerts = s.alerts := rfl
@[simp] theorem State.disarm_port (c : Fin 16) : (s.disarm c).port = s.port := rfl
@[simp] theorem State.disarm_command (c : Fin 16) : (s.disarm c).command = s.command := rfl
@[simp] theorem State.disarm_pins (c : Fin 16) : (s.disarm c).pins = s.pins := rfl
@[simp] theorem State.disarm_pending (c : Fin 16) : (s.disarm c).pending = s.pending := rfl

/-! ### A level seen by the Trigger Unit: `State.seeLevel` -/

@[simp] theorem State.seeLevel_channels (i : Fin 2) (level : Bool) : (s.seeLevel i level).channels = s.channels := rfl
@[simp] theorem State.seeLevel_groups (i : Fin 2) (level : Bool) : (s.seeLevel i level).groups = s.groups := rfl
@[simp] theorem State.seeLevel_timebase (i : Fin 2) (level : Bool) : (s.seeLevel i level).timebase = s.timebase := rfl
@[simp] theorem State.seeLevel_tickSel (i : Fin 2) (level : Bool) : (s.seeLevel i level).tickSel = s.tickSel := rfl
@[simp] theorem State.seeLevel_intervalSel (i : Fin 2) (level : Bool) :
    (s.seeLevel i level).intervalSel = s.intervalSel := rfl
@[simp] theorem State.seeLevel_cadence (i : Fin 2) (level : Bool) : (s.seeLevel i level).cadence = s.cadence := rfl
@[simp] theorem State.seeLevel_triggers (i : Fin 2) (level : Bool) :
    (s.seeLevel i level).triggers = s.triggers.set i { s.triggers[i] with lastLevel := level } := rfl
@[simp] theorem State.seeLevel_queues (i : Fin 2) (level : Bool) : (s.seeLevel i level).queues = s.queues := rfl
@[simp] theorem State.seeLevel_arbiter (i : Fin 2) (level : Bool) : (s.seeLevel i level).arbiter = s.arbiter := rfl
@[simp] theorem State.seeLevel_seq (i : Fin 2) (level : Bool) : (s.seeLevel i level).seq = s.seq := rfl
@[simp] theorem State.seeLevel_refCondition (i : Fin 2) (level : Bool) :
    (s.seeLevel i level).refCondition = s.refCondition := rfl
@[simp] theorem State.seeLevel_calibration (i : Fin 2) (level : Bool) :
    (s.seeLevel i level).calibration = s.calibration := rfl
@[simp] theorem State.seeLevel_ring (i : Fin 2) (level : Bool) : (s.seeLevel i level).ring = s.ring := rfl
@[simp] theorem State.seeLevel_monitors (i : Fin 2) (level : Bool) : (s.seeLevel i level).monitors = s.monitors := rfl
@[simp] theorem State.seeLevel_scheduler (i : Fin 2) (level : Bool) :
    (s.seeLevel i level).scheduler = s.scheduler := rfl
@[simp] theorem State.seeLevel_alerts (i : Fin 2) (level : Bool) : (s.seeLevel i level).alerts = s.alerts := rfl
@[simp] theorem State.seeLevel_port (i : Fin 2) (level : Bool) : (s.seeLevel i level).port = s.port := rfl
@[simp] theorem State.seeLevel_command (i : Fin 2) (level : Bool) : (s.seeLevel i level).command = s.command := rfl
@[simp] theorem State.seeLevel_pins (i : Fin 2) (level : Bool) : (s.seeLevel i level).pins = s.pins := rfl
@[simp] theorem State.seeLevel_pending (i : Fin 2) (level : Bool) : (s.seeLevel i level).pending = s.pending := rfl

/-! ### The end of a settling time: `State.settle` -/

@[simp] theorem State.settle_channels : (s.settle).channels = s.channels := rfl
@[simp] theorem State.settle_groups : (s.settle).groups = s.groups := rfl
@[simp] theorem State.settle_timebase : (s.settle).timebase = s.timebase := rfl
@[simp] theorem State.settle_tickSel : (s.settle).tickSel = s.tickSel := rfl
@[simp] theorem State.settle_intervalSel : (s.settle).intervalSel = s.intervalSel := rfl
@[simp] theorem State.settle_cadence : (s.settle).cadence = s.cadence := rfl
@[simp] theorem State.settle_triggers : (s.settle).triggers = s.triggers := rfl
@[simp] theorem State.settle_queues : (s.settle).queues = s.queues := rfl
@[simp] theorem State.settle_arbiter : (s.settle).arbiter = s.arbiter := rfl
@[simp] theorem State.settle_seq :
    (s.settle).seq = { s.seq with converter := .converting, sampledAt := s.timebase } := rfl
@[simp] theorem State.settle_refCondition : (s.settle).refCondition = s.refCondition := rfl
@[simp] theorem State.settle_calibration : (s.settle).calibration = s.calibration := rfl
@[simp] theorem State.settle_ring : (s.settle).ring = s.ring := rfl
@[simp] theorem State.settle_monitors : (s.settle).monitors = s.monitors := rfl
@[simp] theorem State.settle_scheduler : (s.settle).scheduler = s.scheduler := rfl
@[simp] theorem State.settle_alerts : (s.settle).alerts = s.alerts := rfl
@[simp] theorem State.settle_port : (s.settle).port = s.port := rfl
@[simp] theorem State.settle_command : (s.settle).command = s.command := rfl
@[simp] theorem State.settle_pins : (s.settle).pins = s.pins := rfl
@[simp] theorem State.settle_pending : (s.settle).pending = s.pending := rfl

/-! ### The start of a member: `State.startMember` -/

@[simp] theorem State.startMember_channels (c : Fin 16) (p : Nat) : (s.startMember c p).channels = s.channels := rfl
@[simp] theorem State.startMember_groups (c : Fin 16) (p : Nat) : (s.startMember c p).groups = s.groups := rfl
@[simp] theorem State.startMember_timebase (c : Fin 16) (p : Nat) : (s.startMember c p).timebase = s.timebase := rfl
@[simp] theorem State.startMember_tickSel (c : Fin 16) (p : Nat) : (s.startMember c p).tickSel = s.tickSel := rfl
@[simp] theorem State.startMember_intervalSel (c : Fin 16) (p : Nat) :
    (s.startMember c p).intervalSel = s.intervalSel := rfl
@[simp] theorem State.startMember_cadence (c : Fin 16) (p : Nat) : (s.startMember c p).cadence = s.cadence := rfl
@[simp] theorem State.startMember_triggers (c : Fin 16) (p : Nat) : (s.startMember c p).triggers = s.triggers := rfl
@[simp] theorem State.startMember_queues (c : Fin 16) (p : Nat) : (s.startMember c p).queues = s.queues := rfl
@[simp] theorem State.startMember_arbiter (c : Fin 16) (p : Nat) : (s.startMember c p).arbiter = s.arbiter := rfl
@[simp] theorem State.startMember_seq (c : Fin 16) (p : Nat) :
    (s.startMember c p).seq = s.seq.settlingOn s.channels[c] p := rfl
@[simp] theorem State.startMember_refCondition (c : Fin 16) (p : Nat) :
    (s.startMember c p).refCondition = s.refCondition := rfl
@[simp] theorem State.startMember_calibration (c : Fin 16) (p : Nat) :
    (s.startMember c p).calibration = s.calibration := rfl
@[simp] theorem State.startMember_ring (c : Fin 16) (p : Nat) : (s.startMember c p).ring = s.ring := rfl
@[simp] theorem State.startMember_monitors (c : Fin 16) (p : Nat) : (s.startMember c p).monitors = s.monitors := rfl
@[simp] theorem State.startMember_scheduler (c : Fin 16) (p : Nat) :
    (s.startMember c p).scheduler = s.scheduler := rfl
@[simp] theorem State.startMember_alerts (c : Fin 16) (p : Nat) : (s.startMember c p).alerts = s.alerts := rfl
@[simp] theorem State.startMember_port (c : Fin 16) (p : Nat) : (s.startMember c p).port = s.port := rfl
@[simp] theorem State.startMember_command (c : Fin 16) (p : Nat) : (s.startMember c p).command = s.command := rfl
@[simp] theorem State.startMember_pins (c : Fin 16) (p : Nat) : (s.startMember c p).pins = s.pins := rfl
@[simp] theorem State.startMember_pending (c : Fin 16) (p : Nat) : (s.startMember c p).pending = s.pending := rfl

/-! ### A grant: `State.grant` -/

@[simp] theorem State.grant_channels (slot : Nat) (r : Request) (q : Queues) :
    (s.grant slot r q).channels = s.channels := rfl
@[simp] theorem State.grant_groups (slot : Nat) (r : Request) (q : Queues) :
    (s.grant slot r q).groups = s.groups := rfl
@[simp] theorem State.grant_timebase (slot : Nat) (r : Request) (q : Queues) :
    (s.grant slot r q).timebase = s.timebase := rfl
@[simp] theorem State.grant_tickSel (slot : Nat) (r : Request) (q : Queues) :
    (s.grant slot r q).tickSel = s.tickSel := rfl
@[simp] theorem State.grant_intervalSel (slot : Nat) (r : Request) (q : Queues) :
    (s.grant slot r q).intervalSel = s.intervalSel := rfl
@[simp] theorem State.grant_cadence (slot : Nat) (r : Request) (q : Queues) :
    (s.grant slot r q).cadence = s.cadence := rfl
@[simp] theorem State.grant_triggers (slot : Nat) (r : Request) (q : Queues) :
    (s.grant slot r q).triggers = s.triggers := rfl
@[simp] theorem State.grant_queues (slot : Nat) (r : Request) (q : Queues) : (s.grant slot r q).queues = q := rfl
@[simp] theorem State.grant_arbiter (slot : Nat) (r : Request) (q : Queues) :
    (s.grant slot r q).arbiter = { s.arbiter with pointer := (slot + 1) % s.arbiter.activeBank.length } := rfl
@[simp] theorem State.grant_seq (slot : Nat) (r : Request) (q : Queues) :
    (s.grant slot r q).seq = { s.seq with
      current := some r, captured := r.group?.map fun g => s.groups[g], position := 0, snapshot := none } := rfl
@[simp] theorem State.grant_refCondition (slot : Nat) (r : Request) (q : Queues) :
    (s.grant slot r q).refCondition = s.refCondition := rfl
@[simp] theorem State.grant_calibration (slot : Nat) (r : Request) (q : Queues) :
    (s.grant slot r q).calibration = s.calibration := rfl
@[simp] theorem State.grant_ring (slot : Nat) (r : Request) (q : Queues) : (s.grant slot r q).ring = s.ring := rfl
@[simp] theorem State.grant_monitors (slot : Nat) (r : Request) (q : Queues) :
    (s.grant slot r q).monitors = s.monitors := rfl
@[simp] theorem State.grant_scheduler (slot : Nat) (r : Request) (q : Queues) :
    (s.grant slot r q).scheduler = s.scheduler := rfl
@[simp] theorem State.grant_alerts (slot : Nat) (r : Request) (q : Queues) :
    (s.grant slot r q).alerts = s.alerts := rfl
@[simp] theorem State.grant_port (slot : Nat) (r : Request) (q : Queues) : (s.grant slot r q).port = s.port := rfl
@[simp] theorem State.grant_command (slot : Nat) (r : Request) (q : Queues) :
    (s.grant slot r q).command = s.command := rfl
@[simp] theorem State.grant_pins (slot : Nat) (r : Request) (q : Queues) : (s.grant slot r q).pins = s.pins := rfl
@[simp] theorem State.grant_pending (slot : Nat) (r : Request) (q : Queues) :
    (s.grant slot r q).pending = s.pending := rfl

/-! ### A device reset: `State.deviceReset` -/

@[simp] theorem State.deviceReset_channels : (s.deviceReset).channels = State.reset.channels := rfl
@[simp] theorem State.deviceReset_groups : (s.deviceReset).groups = State.reset.groups := rfl
@[simp] theorem State.deviceReset_timebase : (s.deviceReset).timebase = State.reset.timebase := rfl
@[simp] theorem State.deviceReset_tickSel : (s.deviceReset).tickSel = State.reset.tickSel := rfl
@[simp] theorem State.deviceReset_intervalSel : (s.deviceReset).intervalSel = State.reset.intervalSel := rfl
@[simp] theorem State.deviceReset_cadence : (s.deviceReset).cadence = State.reset.cadence := rfl
@[simp] theorem State.deviceReset_triggers :
    (s.deviceReset).triggers = #v[.reset s.pins.trig[0], .reset s.pins.trig[1]] := rfl
@[simp] theorem State.deviceReset_queues : (s.deviceReset).queues = State.reset.queues := rfl
@[simp] theorem State.deviceReset_arbiter : (s.deviceReset).arbiter = State.reset.arbiter := rfl
@[simp] theorem State.deviceReset_seq : (s.deviceReset).seq = State.reset.seq := rfl
@[simp] theorem State.deviceReset_refCondition : (s.deviceReset).refCondition = State.reset.refCondition := rfl
@[simp] theorem State.deviceReset_calibration : (s.deviceReset).calibration = s.calibration := rfl
@[simp] theorem State.deviceReset_ring : (s.deviceReset).ring = State.reset.ring := rfl
@[simp] theorem State.deviceReset_monitors : (s.deviceReset).monitors = State.reset.monitors := rfl
@[simp] theorem State.deviceReset_scheduler : (s.deviceReset).scheduler = State.reset.scheduler := rfl
@[simp] theorem State.deviceReset_alerts : (s.deviceReset).alerts = State.reset.alerts := rfl
@[simp] theorem State.deviceReset_port : (s.deviceReset).port = s.port := rfl
@[simp] theorem State.deviceReset_command : (s.deviceReset).command = State.reset.command := rfl
@[simp] theorem State.deviceReset_pins : (s.deviceReset).pins = s.pins := rfl
@[simp] theorem State.deviceReset_pending : (s.deviceReset).pending = s.pending := rfl

/-! ### The last levels taken from the pins: `State.latchLevels` -/

@[simp] theorem State.latchLevels_channels : (s.latchLevels).channels = s.channels := rfl
@[simp] theorem State.latchLevels_groups : (s.latchLevels).groups = s.groups := rfl
@[simp] theorem State.latchLevels_timebase : (s.latchLevels).timebase = s.timebase := rfl
@[simp] theorem State.latchLevels_tickSel : (s.latchLevels).tickSel = s.tickSel := rfl
@[simp] theorem State.latchLevels_intervalSel : (s.latchLevels).intervalSel = s.intervalSel := rfl
@[simp] theorem State.latchLevels_cadence : (s.latchLevels).cadence = s.cadence := rfl
@[simp] theorem State.latchLevels_triggers :
    (s.latchLevels).triggers = #v[{ s.triggers[0] with lastLevel := s.pins.trig[0] }, { s.triggers[1] with lastLevel := s.pins.trig[1] }] := rfl
@[simp] theorem State.latchLevels_queues : (s.latchLevels).queues = s.queues := rfl
@[simp] theorem State.latchLevels_arbiter : (s.latchLevels).arbiter = s.arbiter := rfl
@[simp] theorem State.latchLevels_seq : (s.latchLevels).seq = s.seq := rfl
@[simp] theorem State.latchLevels_refCondition : (s.latchLevels).refCondition = s.refCondition := rfl
@[simp] theorem State.latchLevels_calibration : (s.latchLevels).calibration = s.calibration := rfl
@[simp] theorem State.latchLevels_ring : (s.latchLevels).ring = s.ring := rfl
@[simp] theorem State.latchLevels_monitors : (s.latchLevels).monitors = s.monitors := rfl
@[simp] theorem State.latchLevels_scheduler : (s.latchLevels).scheduler = s.scheduler := rfl
@[simp] theorem State.latchLevels_alerts : (s.latchLevels).alerts = s.alerts := rfl
@[simp] theorem State.latchLevels_port : (s.latchLevels).port = s.port := rfl
@[simp] theorem State.latchLevels_command : (s.latchLevels).command = s.command := rfl
@[simp] theorem State.latchLevels_pins : (s.latchLevels).pins = s.pins := rfl
@[simp] theorem State.latchLevels_pending : (s.latchLevels).pending = s.pending := rfl

/-! ### The end of a transaction: `State.csnRises` -/

@[simp] theorem State.csnRises_channels : (s.csnRises).channels = s.channels := rfl
@[simp] theorem State.csnRises_groups : (s.csnRises).groups = s.groups := rfl
@[simp] theorem State.csnRises_timebase : (s.csnRises).timebase = s.timebase := rfl
@[simp] theorem State.csnRises_tickSel : (s.csnRises).tickSel = s.tickSel := rfl
@[simp] theorem State.csnRises_intervalSel : (s.csnRises).intervalSel = s.intervalSel := rfl
@[simp] theorem State.csnRises_cadence : (s.csnRises).cadence = s.cadence := rfl
@[simp] theorem State.csnRises_triggers : (s.csnRises).triggers = s.triggers := rfl
@[simp] theorem State.csnRises_queues : (s.csnRises).queues = s.queues := rfl
@[simp] theorem State.csnRises_arbiter : (s.csnRises).arbiter = s.arbiter := rfl
@[simp] theorem State.csnRises_seq : (s.csnRises).seq = s.seq := rfl
@[simp] theorem State.csnRises_refCondition : (s.csnRises).refCondition = s.refCondition := rfl
@[simp] theorem State.csnRises_calibration : (s.csnRises).calibration = s.calibration := rfl
@[simp] theorem State.csnRises_ring : (s.csnRises).ring = s.ring := rfl
@[simp] theorem State.csnRises_monitors : (s.csnRises).monitors = s.monitors := rfl
@[simp] theorem State.csnRises_scheduler : (s.csnRises).scheduler = s.scheduler := rfl
@[simp] theorem State.csnRises_alerts : (s.csnRises).alerts = s.alerts := rfl
@[simp] theorem State.csnRises_port : (s.csnRises).port = { s.port.idle with csnLow := false } := rfl
@[simp] theorem State.csnRises_command : (s.csnRises).command = s.command := rfl
@[simp] theorem State.csnRises_pins : (s.csnRises).pins = s.pins := rfl
@[simp] theorem State.csnRises_pending : (s.csnRises).pending = s.pending := rfl

/-! ### Every cadence disarmed: `State.disarmAll` -/

@[simp] theorem State.disarmAll_channels : (s.disarmAll).channels = s.channels := rfl
@[simp] theorem State.disarmAll_groups : (s.disarmAll).groups = s.groups := rfl
@[simp] theorem State.disarmAll_timebase : (s.disarmAll).timebase = s.timebase := rfl
@[simp] theorem State.disarmAll_tickSel : (s.disarmAll).tickSel = s.tickSel := rfl
@[simp] theorem State.disarmAll_intervalSel : (s.disarmAll).intervalSel = s.intervalSel := rfl
@[simp] theorem State.disarmAll_cadence :
    (s.disarmAll).cadence = Vector.replicate 16 { armed := false, countdown := 0 } := rfl
@[simp] theorem State.disarmAll_triggers : (s.disarmAll).triggers = s.triggers := rfl
@[simp] theorem State.disarmAll_queues : (s.disarmAll).queues = s.queues := rfl
@[simp] theorem State.disarmAll_arbiter : (s.disarmAll).arbiter = s.arbiter := rfl
@[simp] theorem State.disarmAll_seq : (s.disarmAll).seq = s.seq := rfl
@[simp] theorem State.disarmAll_refCondition : (s.disarmAll).refCondition = s.refCondition := rfl
@[simp] theorem State.disarmAll_calibration : (s.disarmAll).calibration = s.calibration := rfl
@[simp] theorem State.disarmAll_ring : (s.disarmAll).ring = s.ring := rfl
@[simp] theorem State.disarmAll_monitors : (s.disarmAll).monitors = s.monitors := rfl
@[simp] theorem State.disarmAll_scheduler : (s.disarmAll).scheduler = s.scheduler := rfl
@[simp] theorem State.disarmAll_alerts : (s.disarmAll).alerts = s.alerts := rfl
@[simp] theorem State.disarmAll_port : (s.disarmAll).port = s.port := rfl
@[simp] theorem State.disarmAll_command : (s.disarmAll).command = s.command := rfl
@[simp] theorem State.disarmAll_pins : (s.disarmAll).pins = s.pins := rfl
@[simp] theorem State.disarmAll_pending : (s.disarmAll).pending = s.pending := rfl

/-! ### Both holdoffs ended: `State.endHoldoffs` -/

@[simp] theorem State.endHoldoffs_channels : (s.endHoldoffs).channels = s.channels := rfl
@[simp] theorem State.endHoldoffs_groups : (s.endHoldoffs).groups = s.groups := rfl
@[simp] theorem State.endHoldoffs_timebase : (s.endHoldoffs).timebase = s.timebase := rfl
@[simp] theorem State.endHoldoffs_tickSel : (s.endHoldoffs).tickSel = s.tickSel := rfl
@[simp] theorem State.endHoldoffs_intervalSel : (s.endHoldoffs).intervalSel = s.intervalSel := rfl
@[simp] theorem State.endHoldoffs_cadence : (s.endHoldoffs).cadence = s.cadence := rfl
@[simp] theorem State.endHoldoffs_triggers :
    (s.endHoldoffs).triggers = s.triggers.map fun t => { t with count := 0 } := rfl
@[simp] theorem State.endHoldoffs_queues : (s.endHoldoffs).queues = s.queues := rfl
@[simp] theorem State.endHoldoffs_arbiter : (s.endHoldoffs).arbiter = s.arbiter := rfl
@[simp] theorem State.endHoldoffs_seq : (s.endHoldoffs).seq = s.seq := rfl
@[simp] theorem State.endHoldoffs_refCondition : (s.endHoldoffs).refCondition = s.refCondition := rfl
@[simp] theorem State.endHoldoffs_calibration : (s.endHoldoffs).calibration = s.calibration := rfl
@[simp] theorem State.endHoldoffs_ring : (s.endHoldoffs).ring = s.ring := rfl
@[simp] theorem State.endHoldoffs_monitors : (s.endHoldoffs).monitors = s.monitors := rfl
@[simp] theorem State.endHoldoffs_scheduler : (s.endHoldoffs).scheduler = s.scheduler := rfl
@[simp] theorem State.endHoldoffs_alerts : (s.endHoldoffs).alerts = s.alerts := rfl
@[simp] theorem State.endHoldoffs_port : (s.endHoldoffs).port = s.port := rfl
@[simp] theorem State.endHoldoffs_command : (s.endHoldoffs).command = s.command := rfl
@[simp] theorem State.endHoldoffs_pins : (s.endHoldoffs).pins = s.pins := rfl
@[simp] theorem State.endHoldoffs_pending : (s.endHoldoffs).pending = s.pending := rfl

/-! ### A byte at 18h: `State.clearFlagsLow` -/

@[simp] theorem State.clearFlagsLow_channels (v : Byte) : (s.clearFlagsLow v).channels = s.channels := rfl
@[simp] theorem State.clearFlagsLow_groups (v : Byte) : (s.clearFlagsLow v).groups = s.groups := rfl
@[simp] theorem State.clearFlagsLow_timebase (v : Byte) : (s.clearFlagsLow v).timebase = s.timebase := rfl
@[simp] theorem State.clearFlagsLow_tickSel (v : Byte) : (s.clearFlagsLow v).tickSel = s.tickSel := rfl
@[simp] theorem State.clearFlagsLow_intervalSel (v : Byte) : (s.clearFlagsLow v).intervalSel = s.intervalSel := rfl
@[simp] theorem State.clearFlagsLow_cadence (v : Byte) : (s.clearFlagsLow v).cadence = s.cadence := rfl
@[simp] theorem State.clearFlagsLow_triggers (v : Byte) : (s.clearFlagsLow v).triggers = s.triggers := rfl
@[simp] theorem State.clearFlagsLow_queues (v : Byte) : (s.clearFlagsLow v).queues = s.queues := rfl
@[simp] theorem State.clearFlagsLow_arbiter (v : Byte) : (s.clearFlagsLow v).arbiter = s.arbiter := rfl
@[simp] theorem State.clearFlagsLow_seq (v : Byte) : (s.clearFlagsLow v).seq = s.seq := rfl
@[simp] theorem State.clearFlagsLow_refCondition (v : Byte) : (s.clearFlagsLow v).refCondition = s.refCondition := rfl
@[simp] theorem State.clearFlagsLow_calibration (v : Byte) : (s.clearFlagsLow v).calibration = s.calibration := rfl
@[simp] theorem State.clearFlagsLow_ring (v : Byte) : (s.clearFlagsLow v).ring = s.ring := rfl
@[simp] theorem State.clearFlagsLow_monitors (v : Byte) : (s.clearFlagsLow v).monitors = s.monitors := rfl
@[simp] theorem State.clearFlagsLow_scheduler (v : Byte) : (s.clearFlagsLow v).scheduler = s.scheduler := rfl
@[simp] theorem State.clearFlagsLow_alerts (v : Byte) :
    (s.clearFlagsLow v).alerts = { s.alerts with flags := s.alerts.flags.clearLow v } := rfl
@[simp] theorem State.clearFlagsLow_port (v : Byte) : (s.clearFlagsLow v).port = s.port := rfl
@[simp] theorem State.clearFlagsLow_command (v : Byte) : (s.clearFlagsLow v).command = s.command := rfl
@[simp] theorem State.clearFlagsLow_pins (v : Byte) : (s.clearFlagsLow v).pins = s.pins := rfl
@[simp] theorem State.clearFlagsLow_pending (v : Byte) : (s.clearFlagsLow v).pending = s.pending := rfl

/-! ### A byte at 1Ah: `State.storeEnableLow` -/

@[simp] theorem State.storeEnableLow_channels (v : Byte) : (s.storeEnableLow v).channels = s.channels := rfl
@[simp] theorem State.storeEnableLow_groups (v : Byte) : (s.storeEnableLow v).groups = s.groups := rfl
@[simp] theorem State.storeEnableLow_timebase (v : Byte) : (s.storeEnableLow v).timebase = s.timebase := rfl
@[simp] theorem State.storeEnableLow_tickSel (v : Byte) : (s.storeEnableLow v).tickSel = s.tickSel := rfl
@[simp] theorem State.storeEnableLow_intervalSel (v : Byte) : (s.storeEnableLow v).intervalSel = s.intervalSel := rfl
@[simp] theorem State.storeEnableLow_cadence (v : Byte) : (s.storeEnableLow v).cadence = s.cadence := rfl
@[simp] theorem State.storeEnableLow_triggers (v : Byte) : (s.storeEnableLow v).triggers = s.triggers := rfl
@[simp] theorem State.storeEnableLow_queues (v : Byte) : (s.storeEnableLow v).queues = s.queues := rfl
@[simp] theorem State.storeEnableLow_arbiter (v : Byte) : (s.storeEnableLow v).arbiter = s.arbiter := rfl
@[simp] theorem State.storeEnableLow_seq (v : Byte) : (s.storeEnableLow v).seq = s.seq := rfl
@[simp] theorem State.storeEnableLow_refCondition (v : Byte) :
    (s.storeEnableLow v).refCondition = s.refCondition := rfl
@[simp] theorem State.storeEnableLow_calibration (v : Byte) : (s.storeEnableLow v).calibration = s.calibration := rfl
@[simp] theorem State.storeEnableLow_ring (v : Byte) : (s.storeEnableLow v).ring = s.ring := rfl
@[simp] theorem State.storeEnableLow_monitors (v : Byte) : (s.storeEnableLow v).monitors = s.monitors := rfl
@[simp] theorem State.storeEnableLow_scheduler (v : Byte) : (s.storeEnableLow v).scheduler = s.scheduler := rfl
@[simp] theorem State.storeEnableLow_alerts (v : Byte) :
    (s.storeEnableLow v).alerts = { s.alerts with enableLow := v } := rfl
@[simp] theorem State.storeEnableLow_port (v : Byte) : (s.storeEnableLow v).port = s.port := rfl
@[simp] theorem State.storeEnableLow_command (v : Byte) : (s.storeEnableLow v).command = s.command := rfl
@[simp] theorem State.storeEnableLow_pins (v : Byte) : (s.storeEnableLow v).pins = s.pins := rfl
@[simp] theorem State.storeEnableLow_pending (v : Byte) : (s.storeEnableLow v).pending = s.pending := rfl

/-! ### A byte at 1Bh: `State.storeEnableHigh` -/

@[simp] theorem State.storeEnableHigh_channels (v : Byte) : (s.storeEnableHigh v).channels = s.channels := rfl
@[simp] theorem State.storeEnableHigh_groups (v : Byte) : (s.storeEnableHigh v).groups = s.groups := rfl
@[simp] theorem State.storeEnableHigh_timebase (v : Byte) : (s.storeEnableHigh v).timebase = s.timebase := rfl
@[simp] theorem State.storeEnableHigh_tickSel (v : Byte) : (s.storeEnableHigh v).tickSel = s.tickSel := rfl
@[simp] theorem State.storeEnableHigh_intervalSel (v : Byte) :
    (s.storeEnableHigh v).intervalSel = s.intervalSel := rfl
@[simp] theorem State.storeEnableHigh_cadence (v : Byte) : (s.storeEnableHigh v).cadence = s.cadence := rfl
@[simp] theorem State.storeEnableHigh_triggers (v : Byte) : (s.storeEnableHigh v).triggers = s.triggers := rfl
@[simp] theorem State.storeEnableHigh_queues (v : Byte) : (s.storeEnableHigh v).queues = s.queues := rfl
@[simp] theorem State.storeEnableHigh_arbiter (v : Byte) : (s.storeEnableHigh v).arbiter = s.arbiter := rfl
@[simp] theorem State.storeEnableHigh_seq (v : Byte) : (s.storeEnableHigh v).seq = s.seq := rfl
@[simp] theorem State.storeEnableHigh_refCondition (v : Byte) :
    (s.storeEnableHigh v).refCondition = s.refCondition := rfl
@[simp] theorem State.storeEnableHigh_calibration (v : Byte) :
    (s.storeEnableHigh v).calibration = s.calibration := rfl
@[simp] theorem State.storeEnableHigh_ring (v : Byte) : (s.storeEnableHigh v).ring = s.ring := rfl
@[simp] theorem State.storeEnableHigh_monitors (v : Byte) : (s.storeEnableHigh v).monitors = s.monitors := rfl
@[simp] theorem State.storeEnableHigh_scheduler (v : Byte) : (s.storeEnableHigh v).scheduler = s.scheduler := rfl
@[simp] theorem State.storeEnableHigh_alerts (v : Byte) :
    (s.storeEnableHigh v).alerts = { s.alerts with enableHigh := v.extractLsb' 0 4 } := rfl
@[simp] theorem State.storeEnableHigh_port (v : Byte) : (s.storeEnableHigh v).port = s.port := rfl
@[simp] theorem State.storeEnableHigh_command (v : Byte) : (s.storeEnableHigh v).command = s.command := rfl
@[simp] theorem State.storeEnableHigh_pins (v : Byte) : (s.storeEnableHigh v).pins = s.pins := rfl
@[simp] theorem State.storeEnableHigh_pending (v : Byte) : (s.storeEnableHigh v).pending = s.pending := rfl

/-! ### A byte at 1Ch: `State.storeMaster` -/

@[simp] theorem State.storeMaster_channels (v : Byte) : (s.storeMaster v).channels = s.channels := rfl
@[simp] theorem State.storeMaster_groups (v : Byte) : (s.storeMaster v).groups = s.groups := rfl
@[simp] theorem State.storeMaster_timebase (v : Byte) : (s.storeMaster v).timebase = s.timebase := rfl
@[simp] theorem State.storeMaster_tickSel (v : Byte) : (s.storeMaster v).tickSel = s.tickSel := rfl
@[simp] theorem State.storeMaster_intervalSel (v : Byte) : (s.storeMaster v).intervalSel = s.intervalSel := rfl
@[simp] theorem State.storeMaster_cadence (v : Byte) : (s.storeMaster v).cadence = s.cadence := rfl
@[simp] theorem State.storeMaster_triggers (v : Byte) : (s.storeMaster v).triggers = s.triggers := rfl
@[simp] theorem State.storeMaster_queues (v : Byte) : (s.storeMaster v).queues = s.queues := rfl
@[simp] theorem State.storeMaster_arbiter (v : Byte) : (s.storeMaster v).arbiter = s.arbiter := rfl
@[simp] theorem State.storeMaster_seq (v : Byte) : (s.storeMaster v).seq = s.seq := rfl
@[simp] theorem State.storeMaster_refCondition (v : Byte) : (s.storeMaster v).refCondition = s.refCondition := rfl
@[simp] theorem State.storeMaster_calibration (v : Byte) : (s.storeMaster v).calibration = s.calibration := rfl
@[simp] theorem State.storeMaster_ring (v : Byte) : (s.storeMaster v).ring = s.ring := rfl
@[simp] theorem State.storeMaster_monitors (v : Byte) : (s.storeMaster v).monitors = s.monitors := rfl
@[simp] theorem State.storeMaster_scheduler (v : Byte) : (s.storeMaster v).scheduler = s.scheduler := rfl
@[simp] theorem State.storeMaster_alerts (v : Byte) :
    (s.storeMaster v).alerts = { s.alerts with master := v.getLsbD 0 } := rfl
@[simp] theorem State.storeMaster_port (v : Byte) : (s.storeMaster v).port = s.port := rfl
@[simp] theorem State.storeMaster_command (v : Byte) : (s.storeMaster v).command = s.command := rfl
@[simp] theorem State.storeMaster_pins (v : Byte) : (s.storeMaster v).pins = s.pins := rfl
@[simp] theorem State.storeMaster_pending (v : Byte) : (s.storeMaster v).pending = s.pending := rfl

end Sys2Proof.Machine
end

