-- ==== Sys2Proof/Laws/Ops.lean ====
section
/-! SUPPORT. For each shared operation, one lemma that says all it can do, or, for arbitration and what ends in it, all it
can touch. -/

namespace Sys2Proof.Machine

/-! ### Flags -/

/-- Setting no further flag changes nothing. -/
@[simp] theorem Latched.also_none (l : Latched) : (l.also fun _ => false) = l := by
  cases l; simp [Latched.also]

/-- Flags set in two lots are the flags of either lot. -/
@[simp] theorem Latched.also_also (f g : Flag → Bool) (l : Latched) :
    (l.also f).also g = l.also fun x => f x || g x := by
  simp [Latched.also, Bool.or_assoc]

/-- Setting one flag is setting those equal to it. -/
theorem Latched.set_eq_also (f : Flag) (l : Latched) : l.set f = l.also fun g => decide (g = f) := by
  cases f <;> simp [Latched.set, Latched.also]

/-- Setting no further flag changes nothing in the alert unit. -/
@[simp] theorem Alerts.also_none (a : Alerts) : (a.also fun _ => false) = a := by
  cases a; simp [Alerts.also]

/-- Flags set in two lots, in the alert unit. -/
@[simp] theorem Alerts.also_also (f g : Flag → Bool) (a : Alerts) :
    (a.also f).also g = a.also fun x => f x || g x := by
  simp [Alerts.also]

/-- Raising a flag sets that one and changes nothing else. -/
theorem State.raise_eq (f : Flag) (s : State) :
    s.raise f = { s with alerts := s.alerts.also fun g => decide (g = f) } := by
  simp [State.raise, Alerts.also, Latched.set_eq_also]

/-- Raising a flag or not, by a condition. -/
theorem State.raise_if (b : Bool) (f : Flag) (s : State) :
    (if b then s.raise f else s) = { s with alerts := s.alerts.also fun g => b && decide (g = f) } := by
  cases b <;> simp [State.raise_eq]

/-! ### The Result Ring -/

/-- An entry handed to the ring changes the ring, and sets RING_LOSS exactly when the ring is full. -/
theorem State.produce_eq (d : Draft) (s : State) :
    s.produce d =
      { s with ring := s.ring.hand d, alerts := s.alerts.also fun g => s.ring.full && decide (g = .ringLoss) } := by
  unfold State.produce
  cases h : s.ring.full <;> simp [State.raise_eq]

/-- An ABORTED entry handed to the ring sets ABORTED as well. -/
theorem State.produceAborted_eq (d : Draft) (s : State) :
    s.produceAborted d =
      { s with
        ring := s.ring.hand d
        alerts := s.alerts.also fun g => s.ring.full && decide (g = .ringLoss) || decide (g = .aborted) } := by
  simp [State.produceAborted, State.raise_eq, State.produce_eq]

/-- What an entry handed to the ring leaves of it, by the two cases of a full ring and the one of a ring with room. -/
theorem Ring.hand_cases (d : Draft) (r : Ring) :
    (r.entries.length < 64 ∧ r.hand d = r.place d)
      ∨ (64 ≤ r.entries.length ∧ r.policy = .hold ∧ r.hand d = r.discard)
      ∨ (64 ≤ r.entries.length ∧ r.policy = .overwrite ∧ r.hand d = r.dropHead.place d) := by
  unfold Ring.hand Ring.full Config.ringCapacity
  by_cases h : 64 ≤ r.entries.length
  · cases hp : r.policy <;> simp [h]
  · simp [h]; omega

/-! ### The Monitor -/

/-- An evaluation changes the monitor records alone. -/
theorem State.evaluate_eq (c : Fin 16) (s : State) : s.evaluate c = { s with monitors := s.evaluated c } := by
  unfold State.evaluate State.evaluated
  split <;> rfl

/-- A reference put and evaluated changes the monitor records alone. -/
theorem State.putReference_eq (c : Fin 16) (f : Option Word16) (s : State) :
    s.putReference c f =
      { s with monitors :=
        ({ s with monitors := s.monitors.set c { s.monitors[c] with reference := f } } : State).evaluated c } := by
  simp [State.putReference, State.evaluate_eq]

/-! ### The end of a request -/

/-- The request gone, the converter at `k`, and IMM_DONE for an IMMEDIATE request. -/
theorem State.dropRequest_eq (k : Converter) (s : State) :
    s.dropRequest k =
      { s with
        seq := s.seq.ended k
        alerts := s.alerts.also fun g => s.seq.holdsImmediate && decide (g = .immDone) } := by
  unfold State.dropRequest Sequencer.holdsImmediate Sequencer.ended
  cases h : s.seq.current with
  | none => simp
  | some r => cases hr : r.isImmediate <;> simp [State.raise_eq, hr]

/-- PAUSING becomes PAUSED with RUN_CHANGE; the other scheduler states are left. -/
theorem State.endPausing_eq (s : State) :
    s.endPausing =
      { s with
        scheduler := s.scheduler.afterEnd true
        alerts := s.alerts.also fun g => decide (s.scheduler = .pausing) && decide (g = .runChange) } := by
  unfold State.endPausing Scheduler.afterEnd
  by_cases h : s.scheduler = .pausing <;> simp [h, State.raise_eq]

/-- All that the end of a request does. -/
theorem State.endRequest_eq (k : Converter) (s : State) :
    s.endRequest k =
      { s with
        seq := s.seq.ended k
        scheduler := s.scheduler.afterEnd true
        alerts := s.alerts.also fun g =>
          s.seq.holdsImmediate && decide (g = .immDone) || decide (s.scheduler = .pausing) && decide (g = .runChange) } := by
  simp [State.endRequest, State.dropRequest_eq, State.endPausing_eq]

/-! ### What arbitration can touch -/

/-- `t` is `s` but for the queues, the Arbiter, the sequencer, the ring and the latched flags. -/
def State.ServesOnly (s t : State) : Prop :=
  t = { s with queues := t.queues, arbiter := t.arbiter, seq := t.seq, ring := t.ring, alerts := t.alerts }

/-- Such a change leaves the scheduler. -/
theorem State.ServesOnly.scheduler_eq {s t : State} (h : s.ServesOnly t) : t.scheduler = s.scheduler := by
  have k := congrArg State.scheduler h
  exact k

/-- Nothing changed is nothing but those changed. -/
theorem State.ServesOnly.refl (s : State) : s.ServesOnly s := rfl

/-- Two such changes are one. -/
theorem State.ServesOnly.trans {s t u : State} (h : s.ServesOnly t) (k : t.ServesOnly u) : s.ServesOnly u := by
  unfold State.ServesOnly at *; rw [k, h]

/-- An ABORTED entry is such a change. -/
theorem State.produceAborted_servesOnly (d : Draft) (s : State) : s.ServesOnly (s.produceAborted d) := by
  rw [State.produceAborted_eq]; rfl

/-- The skip of members is such a change. -/
theorem State.skipMembers_servesOnly (r : Request) (l : List (Fin 16)) :
    ∀ (p : Nat) (s : State), s.ServesOnly (s.skipMembers r p l) := by
  induction l with
  | nil => intro p s; exact .refl s
  | cons c rest ih =>
    intro p s
    exact State.ServesOnly.trans (t := { s with seq := { s.seq with position := p } }) rfl
      ((State.produceAborted_servesOnly _ _).trans (ih _ _))

/-- A turn is such a change. -/
theorem State.takeTurn_servesOnly (p : Nat) (s : State) : s.ServesOnly (s.takeTurn p).1 := by
  unfold State.takeTurn
  split
  · exact .refl s
  · dsimp only
    split
    · exact (State.skipMembers_servesOnly _ _ _ _).trans rfl
    · exact State.skipMembers_servesOnly _ _ _ _

/-- Arbitration asks for a RUNNING scheduler with the converter IDLE and no request. -/
theorem State.free_iff (s : State) :
    s.free = true ↔ s.scheduler = .running ∧ s.seq.converter = .idle ∧ s.seq.current = none := by
  simp [State.free]

/-- With no request waiting in any queue, the search finds none. -/
theorem State.search_none_of_empty (s : State) (h : s.queues = .none) : s.search = none := by
  unfold State.search
  rw [List.findSome?_eq_none_iff]
  intro k _
  dsimp only
  split
  · rename_i c _
    cases c <;> simp [h, Queues.none, Queues.waiting]
  · rfl

/-- Grants in a row are such a change. -/
theorem State.arbitrateFor_servesOnly (n : Nat) : ∀ s : State, s.ServesOnly (s.arbitrateFor n) := by
  induction n with
  | zero => intro s; exact .refl s
  | succ n ih =>
    intro s
    unfold State.arbitrateFor
    split
    · rename_i hf
      split
      · exact .refl s
      · rename_i slot c _
        split
        · exact .refl s
        · rename_i r q _
          have hg : s.ServesOnly (s.grant slot r q) := rfl
          dsimp only
          split
          · exact hg.trans rfl
          · have ht := hg.trans (State.takeTurn_servesOnly 0 (s.grant slot r q))
            split
            · rename_i u h; rw [h] at ht; exact ht
            · rename_i u h
              rw [h] at ht
              refine (ht.trans ?_).trans (ih _)
              have hs : u.scheduler ≠ .pausing := by
                have hk : u.scheduler = s.scheduler := ht.scheduler_eq
                rw [hk, ((State.free_iff s).mp hf).1]
                decide
              rw [State.endRequest_eq]
              simp [State.ServesOnly, Scheduler.afterEnd, hs]
    · exact .refl s

/-- Arbitration touches the queues, the Arbiter, the sequencer, the ring and the latched flags, and nothing else. -/
theorem State.arbitrate_servesOnly (s : State) : s.ServesOnly s.arbitrate := State.arbitrateFor_servesOnly _ s

/-! ### Posting -/

/-- An IMMEDIATE posting is such a change. -/
theorem State.postImmediate_servesOnly (r : ImmRequest) (s : State) : s.ServesOnly (s.postImmediate r) :=
  State.ServesOnly.trans (t := { s with queues := _ }) rfl (State.arbitrate_servesOnly _)

/-- A TRIGGERED demand is such a change, whatever becomes of it. -/
theorem State.postTriggered_servesOnly (g : Fin 4) (s : State) : s.ServesOnly (s.postTriggered g) := by
  unfold State.postTriggered
  split
  · rfl
  · split
    · rfl
    · exact State.ServesOnly.trans (t := { s with queues := _ }) rfl (State.arbitrate_servesOnly _)

/-- A CADENCE demand is such a change, whatever becomes of it. -/
theorem State.postCadence_servesOnly (c : Fin 16) (s : State) : s.ServesOnly (s.postCadence c) := by
  unfold State.postCadence
  split
  · rfl
  · split
    · rfl
    · exact State.ServesOnly.trans (t := { s with queues := _ }) rfl (State.arbitrate_servesOnly _)

/-- A MAINTENANCE demand is such a change, whatever becomes of it. -/
theorem State.postMaintenance_servesOnly (m : CalTarget) (s : State) : s.ServesOnly (s.postMaintenance m) := by
  unfold State.postMaintenance
  split
  · rfl
  · exact State.ServesOnly.trans (t := { s with queues := _ }) rfl (State.arbitrate_servesOnly _)

/-- An expiry changes the cadence records besides, and nothing else. -/
theorem State.expire_frame (c : Fin 16) (s : State) :
    ({ s with cadence := s.cadence.set c { s.cadence[c] with countdown := (s.channels[c]).period } } : State).ServesOnly
      (s.expire c) := State.postCadence_servesOnly _ _

/-- An accepted trigger changes the trigger records besides, and nothing else. -/
theorem State.acceptTrigger_frame (i : Fin 2) (s : State) :
    ({ s with triggers := s.triggers.set i { s.triggers[i] with count := (s.triggers[i]).record.holdoff } } :
      State).ServesOnly (s.acceptTrigger i) := State.postTriggered_servesOnly _ _

/-- A withdrawn request is such a change: at most its entry, ABORTED and IMM_DONE. -/
theorem State.withdraw_servesOnly (reason : AbortReason) (r : ImmRequest) (s : State) :
    s.ServesOnly (s.withdraw reason r) := by
  unfold State.withdraw
  split
  · exact (State.produceAborted_servesOnly _ _).trans rfl
  · rfl

/-- The work in progress aborted is such a change. -/
theorem State.abortWork_servesOnly (reason : AbortReason) (k : Converter) (s : State) :
    s.ServesOnly (s.abortWork reason k) := by
  unfold State.abortWork
  split
  · rename_i d _
    refine (State.produceAborted_servesOnly d s).trans ?_
    rw [State.dropRequest_eq]; rfl
  · rw [State.dropRequest_eq]; rfl

/-! ### Commands, registers and rows -/

/-- What a command leaves: its answer's state, with the result, the detail and the echo, and CMD_ERROR for a result other
than OK. -/
theorem Answer.leave_eq (code : Byte) (a : Answer) :
    a.leave code =
      { a.state with
        command := { a.state.command with result := a.result, detail := a.detail, echo := code }
        alerts := a.state.alerts.also fun g => decide (a.result ≠ .ok) && decide (g = .cmdError) } := by
  unfold Answer.leave
  by_cases h : a.result = .ok <;> simp [h, State.raise_eq]

/-- A refusal leaves the answered state. -/
theorem State.refuse_leave (code : Byte) (r : ResultCode) (s : State) :
    (s.advance.refuse r).leave code = s.answered code r .none := by
  rw [Answer.leave_eq]
  simp only [State.refuse, State.advance, State.answered, Port.past]
  congr 2
  funext g; cases g <;> simp
  exact decide_not

/-- A command during STARTING is answered NOT_READY. -/
theorem State.takeCommand_starting (code : Byte) (f : State → Answer) (s : State) (h : s.scheduler = .starting) :
    s.takeCommand code f = s.answered code .notReady .none := by
  have h' : s.advance.scheduler = .starting := h
  simp only [State.takeCommand, h', if_true]
  exact State.refuse_leave _ _ _

/-- A command out of STARTING is carried out on the state past CMD. -/
theorem State.takeCommand_eq (code : Byte) (f : State → Answer) (s : State) (h : s.scheduler ≠ .starting) :
    s.takeCommand code f = (f s.advance).leave code := by
  have h' : s.advance.scheduler ≠ .starting := h
  simp only [State.takeCommand, h', if_false]

/-- A register byte takes effect out of STARTING, and the pointer advances either way. -/
theorem State.takeRegister_eq (f : State → State) (s : State) :
    s.takeRegister f = if s.scheduler = .starting then s.advance else f s.advance := rfl

/-- The next state of a row that can occur. -/
@[simp] theorem State.occur_true (s t : State) : s.occur true t = .next t := rfl

/-- The next state of a row that cannot. -/
@[simp] theorem State.occur_false (s t : State) : s.occur false t = .next s := rfl

/-- A write's data byte is due at address `a` exactly in such a transaction. -/
theorem State.writingAt_iff (a : Byte) (s : State) : s.writingAt a = true ↔ s.inWrite a := by
  simp [State.writingAt, State.writing, State.inWrite, and_assoc]

/-! ### The edges of SCLK -/

/-- All a sampling edge can do: nothing, one bit more, or, at the eighth bit of a byte, the byte's row, if it has one, on the
state with no bit under way. -/
theorem State.sampleBit_cases (sdi : Bool) (s : State) :
    let bits := s.port.bits ++ [sdi]
    let whole : State := { s with port := { s.port with bits := [] } }
    s.sampleBit sdi = .next s
      ∨ bits.length < 8 ∧ s.sampleBit sdi = .next { s with port := { s.port with bits := bits } }
      ∨ s.sampleBit sdi = .next whole
      ∨ ∃ c, s.port.rowOfByte (byteOfBits bits) = some c ∧ s.sampleBit sdi = exec c whole := by
  unfold State.sampleBit
  split
  · by_cases h : (s.port.bits ++ [sdi]).length < 8
    · exact .inr (.inl ⟨h, if_pos h⟩)
    · simp only [if_neg h]
      cases hr : s.port.rowOfByte (byteOfBits (s.port.bits ++ [sdi])) with
      | none => exact .inr (.inr (.inl (by rw [show Port.rowOfByte _ { s.port with bits := [] } = none from hr])))
      | some c =>
        exact .inr (.inr (.inr ⟨c, rfl, by rw [show Port.rowOfByte _ { s.port with bits := [] } = some c from hr]⟩))
  · exact .inl rfl

end Sys2Proof.Machine
end

