-- ==== Sys2Proof/Tests/Slice0.lean ====
section
/-! SUPPORT. Small tests, one step each, with results taken from the manual's rules, and for each statement with
hypotheses a state and operands that meet them. -/

namespace Sys2Proof.Tests

open Sys2Proof Sys2Proof.Machine

-- One thread at a time: a thread for each theorem runs out of address space.
set_option Elab.async false

/-! ### Builders -/

/-- The state a row leaves. -/
def after (c : Instr) (s : State) : State :=
  match exec c s with
  | .next t => t
  | _ => s

/-- A write transaction whose next data byte is for address `a`. -/
def byteAt (a : Byte) (s : State) : State :=
  { s with port := { s.port with csnLow := true, phase := .data, direction := .write, pointer := a } }

/-- A scheduler state with the next byte at CMD. -/
def inState (k : Scheduler) : State := byteAt 0x14 { State.reset with scheduler := k }

/-- The four arguments. -/
def args (a b c d : Byte) (s : State) : State := { s with command := { s.command with args := #v[a, b, c, d] } }

/-- The first bytes of the staging buffer. -/
def staged (l : List Byte) (s : State) : State := { s with command := { s.command with staging := stagingOf l } }

/-- Every channel enabled. -/
def enabled (s : State) : State := { s with channels := s.channels.map fun r => { r with enabled := true } }

/-- One channel's period and offset. -/
def paced (c : Fin 16) (p o : Word16) (s : State) : State :=
  { s with channels := s.channels.set c { s.channels[c] with period := p, offset := o } }

/-- One channel armed. -/
def armed (c : Fin 16) (n : Word16) (s : State) : State :=
  { s with cadence := s.cadence.set c { armed := true, countdown := n } }

/-- One group's list. -/
def group (g : Fin 4) (l : List (Fin 16)) (s : State) : State := { s with groups := s.groups.set g l }

/-- One trigger input's record and count. -/
def trigger (i : Fin 2) (e : EdgeSelect) (g : Fin 4) (h n : Word16) (s : State) : State :=
  { s with triggers := s.triggers.set i { record := { edge := e, group := g, holdoff := h }, count := n, lastLevel := false } }

/-- A request current at position `p`, with the converter at `k`. -/
def working (k : Converter) (r : Request) (p : Nat) (s : State) : State :=
  { s with seq := { s.seq with
      converter := k
      current := some r
      captured := r.group?.map fun g => s.groups[g]
      position := p
      snapshot := some { positive := 0, negative := .common, gain := 0, settling := 4 } } }

/-- The converter at `k` with no request. -/
def converter (k : Converter) (s : State) : State := { s with seq := { s.seq with converter := k } }

/-- An IMMEDIATE request for channel `c`. -/
def imm (c : Fin 16) : ImmRequest := { target := .channel c, tag := 0x42 }

/-- A TRIGGERED request for group `g`. -/
def trg (g : Fin 4) : Request := .triggered (Merged.fresh g)

/-- A calibration request. -/
def cal (k : CalKind) : Request := .maintenance (Merged.fresh { kind := k, gain := 0 })

/-- An entry's contents. -/
def draft : Draft :=
  { origin := .immediate 0x42, target := .channel 0, place := none, timestamp := 7, kind := .aborted .host }

/-- A ring of `n` entries numbered from 0. -/
def filled (n : Nat) (p : Policy) (s : State) : State :=
  { s with ring := { s.ring with
      entries := (List.range n).map fun k => { seq := BitVec.ofNat 16 k, lossBefore := none, draft := draft }
      nextSeq := BitVec.ofNat 16 n
      policy := p } }

/-- A channel's latest value, reference and band. -/
def measured (c : Fin 16) (v f band : Word16) (s : State) : State :=
  { s with
    channels := s.channels.set c { s.channels[c] with band := band }
    monitors := s.monitors.set c { latest := some { value := v, timestamp := 5 }, reference := some f, inSet := false } }

/-- The port in a phase and direction. -/
def ported (p : PortPhase) (d : Direction) (s : State) : State :=
  { s with port := { s.port with csnLow := true, phase := p, direction := d } }

/-- A read with the modifier in which every byte of the latest-value window has been clocked out. -/
def readThrough (s : State) : State :=
  { s with port := { s.port with
      csnLow := true, phase := .data, direction := .read, acknowledge := true
      snapshot := some s.takeSnapshot, clocked := Vector.replicate 32 true } }

/-- All latched flags set. -/
def flagged (s : State) : State :=
  { s with alerts := { s.alerts with flags := ⟨true, true, true, true, true, true, true, true, true, true⟩ } }

/-- IMMEDIATE requests waiting. -/
def queued (l : List ImmRequest) (s : State) : State := { s with queues := { s.queues with immediate := l } }

/-- Active bank A of one slot. -/
def oneSlot (c : ServiceClass) (s : State) : State :=
  { s with arbiter := { s.arbiter with
      bankA := { length := 1, slots := (Vector.replicate 32 Slot.skip).set 0 (.serve c) } } }

/-- A running part with every channel enabled, the next byte at CMD. -/
def running : State := enabled (inState .running)

/-- A CHANNEL record in its staging layout: enabled by `e`, AIN3 against AIN4, gain 1, settling 2, period, offset, band. -/
def channelBytes (e period offset band : Byte) : List Byte := [e, 3, 4, 1, 2, period, 0, offset, 0, band, 0]

/-- The record those bytes are. -/
def channelOf (e : Bool) (period offset band : Word16) : ChannelRecord :=
  { enabled := e, positive := 3, negative := .ain 4, gain := 1, settling := 2, period := period, offset := offset
    band := band }

/-! ### The WellFormed smoke test -/

/-- A command's code is no unknown code. -/
theorem smoke_unknownCommandCode : (Instr.unknownCommandCode 0x10).wellFormed = false := by decide

/-- A byte without a one at bit 0 requests no REF_FAULT clear. -/
theorem smoke_refFaultClear : (Instr.refFaultClear 0xFE).wellFormed = false := by decide

/-- An ill-formed term changes nothing. -/
theorem smoke_illFormed_changes_nothing :
    after (.unknownCommandCode 0x10) (inState .stopped) = inState .stopped
      ∧ after (.refFaultClear 0xFE) (byteAt 0x19 (inState .stopped)) = byteAt 0x19 (inState .stopped) := by
  decide +kernel

/-- No word of the table spells a row, so the fetch word changes nothing. -/
theorem test_decodeTableWord : decodeTableWord 8 0x01 = none ∧ State.reset.withFetchWord 8 1 = State.reset :=
  ⟨rfl, rfl⟩

/-! ### Run commands -/

/-- R40: the countdown of a channel armed at START is its offset. -/
theorem test_start_arms : (after .start (paced 3 10 4 (enabled (inState .stopped)))).cadence[3]
    = { armed := true, countdown := 4 } := by decide +kernel

/-- R40, R42: a channel at offset 0 expires at START, is granted at slot 0, and counts from its period. -/
theorem test_start_offset_zero :
    let t := after .start (paced 3 10 0 (enabled (inState .stopped)))
    t.seq.converter = .settling ∧ t.cadence[3] = { armed := true, countdown := 10 } ∧ t.arbiter.pointer = 1 := by
  decide +kernel

/-- R140: PAUSE with no current request enters PAUSED and sets RUN_CHANGE (bit 3 of 19h). -/
theorem test_pause : (after .pause running).scheduler = .paused ∧ (after .pause running).flagsHigh = 0x08 := by
  decide +kernel

/-- R142: RESUME grants what collected, and sets no flag. -/
theorem test_resume :
    let t := after .resume { queued [imm 5] running with scheduler := .paused }
    t.scheduler = .running ∧ t.seq.converter = .settling ∧ t.flagsHigh = 0x00 := by decide +kernel

/-- R31, R84, R143: STOP gives the current request's entry and then the flushed ones, oldest first. -/
theorem test_stop_entries :
    let t := after .stop (queued [imm 5, imm 6] (working .settling (.immediate (imm 4)) 0 running))
    t.ring.entries.map (·.draft.target) = [.channel 4, .channel 5, .channel 6] ∧ t.seq.converter = .recovering
      ∧ t.flagsLow = 0x09 ∧ t.flagsHigh = 0x0A := by decide +kernel

/-- R82: ABORT_CURRENT in CONVERTING writes one HOST entry and enters RECOVERING. -/
theorem test_abortCurrent :
    let t := after .abortCurrent (working .converting (.immediate (imm 4)) 0 running)
    t.seq.converter = .recovering ∧ t.ring.entries.map (·.draft.kind) = [.aborted .host] := by decide +kernel

/-- R82: refused with BAD_STATE while CALIBRATING. -/
theorem test_abortCurrent_calibrating :
    (after .abortCurrent (working .calibrating (cal .offset) 0 running)).command.result = .badState := by
  decide +kernel

/-- R86, R94, R145: DEVICE_RESET goes to STARTING and keeps the calibration records. -/
theorem test_deviceReset :
    let kept : CalRecord := { validity := .calibrated, offset := 9, gain := 32768, calibratedAt := some 3 }
    let t := after .deviceReset { running with calibration := Vector.replicate 4 kept }
    t.scheduler = .starting ∧ t.calibration[2] = kept ∧ t.command.echo = 0x00 := by decide +kernel

/-! ### Posting -/

/-- R23, R65: a POST of channel 5 is granted at slot 1 and starts; the pointer is 2. -/
theorem test_post :
    let t := after .post (args 0 5 0x42 0 running)
    t.seq.converter = .settling ∧ t.seq.current = some (.immediate (imm 5)) ∧ t.arbiter.pointer = 2
      ∧ t.command.result = .ok := by decide +kernel

/-- R23: a channel that is disabled is refused at check 5. -/
theorem test_post_disabled : (after .post (args 0 5 0 0 (inState .running))).command.result = .disabled := by
  decide +kernel

/-- R52: a soft trigger loads the holdoff and posts its group. -/
theorem test_softTrigger :
    let t := after .softTrigger (args 1 0 0 0 (trigger 1 .rising 2 9 0 (group 2 [7, 8] running)))
    (t.triggers[1]).count = 9 ∧ t.seq.captured = some [7, 8] := by decide +kernel

/-- R51: an OFF record is refused with BAD_STATE. -/
theorem test_softTrigger_off : (after .softTrigger (args 1 0 0 0 running)).command.result = .badState := by
  decide +kernel

/-- R28: mask 21h calibrates OFFSET at gain 0 first, and queues GAIN at gain 1. -/
theorem test_calibrate :
    let t := after .calibrate (args 0x21 0 0 0 running)
    t.seq.converter = .calibrating ∧ t.queues.maintenance = [Merged.fresh { kind := .gain, gain := 1 }] := by
  decide +kernel

/-! ### Tables -/

/-- R1, R170: the reset record of channel 2: disabled, AIN2 against COMMON, gain 0, settling 4. -/
theorem test_tableRead_channel :
    (after .tableRead (args 1 2 0 0 running)).command.staging = stagingOf [1, 2, 0x10, 0, 4] := by decide +kernel

/-- R94, R105: the nominal calibration record, its gain constant 8000h least significant byte first. -/
theorem test_tableRead_calibration :
    (after .tableRead (args 5 3 0 0 running)).command.staging = stagingOf [0, 0, 0, 0, 0, 0x80] := by decide +kernel

/-- R5: the offset must lie below the period: check 7 fails at equality. -/
theorem test_tableWrite_offset :
    let t := after .tableWrite (args 1 2 0 0 (staged (channelBytes 1 5 5 0) running))
    t.command.result = .refused ∧ t.command.detail = .offset := by decide +kernel

/-- R7, R8, R9: a disable aborts the member in flight, with DISABLED. -/
theorem test_tableWrite_disable :
    let t := after .tableWrite (args 1 4 0 0
      (staged (channelBytes 0 0 0 0) (working .settling (.immediate (imm 4)) 0 running)))
    t.seq.converter = .recovering ∧ t.ring.entries.map (·.draft.kind) = [.aborted .disabled] := by decide +kernel

/-- R68: the standby bank becomes active, with the pointer at 0. -/
theorem test_swapBanks :
    let t := after .swapBanks { running with arbiter := { running.arbiter with pointer := 5 } }
    t.arbiter.active = .b ∧ t.arbiter.pointer = 0 := by decide +kernel

/-- R67: a waiting class that the standby bank leaves out refuses the swap. -/
theorem test_swapBanks_stranded :
    let t := after .swapBanks (queued [imm 5] { running with arbiter := { running.arbiter with
      bankB := { length := 1, slots := (Vector.replicate 32 Slot.skip).set 0 (.serve .cadence) } } })
    t.arbiter.active = .a ∧ t.command.detail = .strandedImmediate := by decide +kernel

/-! ### The ring, references and time by command -/

/-- R117: naming the second of three entries removes two. -/
theorem test_ringRelease : (after .ringRelease (args 1 0 0 0 (filled 3 .hold running))).ring.entries.map (·.seq) = [2] := by
  decide +kernel

/-- R117: a number just behind the head is STALE. -/
theorem test_ringRelease_stale :
    (after .ringRelease (args 0xFF 0xFF 0 0 (filled 3 .hold running))).command.result = .stale := by decide +kernel

/-- R121: the next sequence number goes on. -/
theorem test_ringClear :
    let t := after .ringClear (filled 3 .hold running)
    t.ring.entries = [] ∧ t.ring.nextSeq = 3 := by decide +kernel

/-- R122: OVERWRITE and 64 are stored. -/
theorem test_ringConfig :
    let t := after .ringConfig (args 1 64 0 0 running)
    t.ring.policy = .overwrite ∧ t.ring.watermark = 64 := by decide +kernel

/-- R122: a watermark of 65 is refused. -/
theorem test_ringConfig_range : (after .ringConfig (args 1 65 0 0 running)).command.result = .badArg := by
  decide +kernel

/-- R126, R127, R133: −32768 against 32767 differ by 65535, which is above any band. -/
theorem test_setReference :
    (after .setReference (args 2 1 0xFF 0x7F (measured 2 0x8000 0x8000 0x7FFF running))).monitors[2]
      = { latest := some { value := 0x8000, timestamp := 5 }, reference := some 0x7FFF, inSet := true } := by
  decide +kernel

/-- R37: SET_TICK is taken in STOPPED. -/
theorem test_setTick : (after .setTick (args 3 0 0 0 (inState .stopped))).tickSel = 3 := by decide +kernel

/-- R37: and refused out of it. -/
theorem test_setTick_running : (after .setTick (args 3 0 0 0 running)).command.result = .badState := by decide +kernel

/-- R153, R167: a byte that is no code is refused, echoed, and sets CMD_ERROR (bit 2 of 19h). -/
theorem test_unknownCommandCode :
    let t := after (.unknownCommandCode 0x99) running
    t.command.result = .badArg ∧ t.command.echo = 0x99 ∧ t.flagsHigh = 0x04 := by decide +kernel

/-! ### Alert registers and the other write addresses -/

/-- R149: ones at bits 1 and 7 of 18h clear RING_LOSS and CAL_FAIL only. -/
theorem test_clearLatchedFlag : (after (.clearLatchedFlag 0x82) (byteAt 0x18 (flagged running))).flagsLow = 0x78 := by
  decide +kernel

/-- R92, R151: the clear releases a HALTED converter, and the other ones of the byte count too. -/
theorem test_refFaultClear :
    let t := after (.refFaultClear 0x05) (byteAt 0x19 (converter .halted (flagged running)))
    t.seq.converter = .idle ∧ t.flagsHigh = 0x0A := by decide +kernel

/-- R151: refused while the condition is present. -/
theorem test_refFaultClear_refused :
    (after (.refFaultClear 0x01) (byteAt 0x19 (flagged { running with refCondition := true }))).flagsHigh = 0x0F := by
  decide +kernel

/-- R154: the four enables of 1Bh. -/
theorem test_alertEnableWrite : (after (.alertEnableWrite 0xFA) (byteAt 0x1B running)).alerts.enableHigh = 0xA := by
  decide +kernel

/-- R155, R156: the master enable asserts ALERTN for an enabled flag that is set. -/
theorem test_alertMasterWrite :
    let s := flagged { running with alerts := { running.alerts with enableHigh := 0x1 } }
    (after (.alertMasterWrite 0xFF) (byteAt 0x1C s)).alertnAsserted = true := by decide +kernel

/-- R128: channel 9 is bit 1 of 1Fh. -/
theorem test_deviationSetClearRequest :
    let s := { running with monitors := Vector.replicate 16 { latest := none, reference := none, inSet := true } }
    (after (.deviationSetClearRequest 0x02) (byteAt 0x1F s)).monitors.toList.countP (·.inSet) = 15 := by decide +kernel

/-- R163, window map: 13h is ARG3 and 67h the last staging byte. -/
theorem test_registerWrite :
    ((after (.registerWrite 0xAB) (byteAt 0x13 running)).command.args[3]) = 0xAB
      ∧ ((after (.registerWrite 0xCD) (byteAt 0x67 running)).command.staging[39]) = 0xCD := by decide +kernel

/-- R162, R163: a write past the staging buffer is ignored, and the pointer goes from FFh to 00h. -/
theorem test_registerWrite_ignored :
    (after (.registerWrite 0xCD) (byteAt 0x68 running)).command = running.command
      ∧ (after (.registerWrite 0xCD) (byteAt 0xFF running)).port.pointer = 0x00 := by decide +kernel

/-! ### Transactions -/

/-- R160: SCLK high selects mode 3. -/
theorem test_csnFall : (after (.csnFall true) State.reset).port.mode = .mode3 := by decide +kernel

/-- R161: 40h asks for acknowledgement without a read, and is ignored; C0h is a read with the modifier. -/
theorem test_headerByte :
    (after (.headerByte 0x40) (ported .header .write running)).port.phase = .ignored
      ∧ (after (.headerByte 0xC0) (ported .header .write running)).port.acknowledging = true := by decide +kernel

/-- R162: the address sets the pointer. -/
theorem test_writeAddressByte : (after (.writeAddressByte 0x40) (ported .address .write running)).port.pointer = 0x40 := by
  decide +kernel

/-- R130, R164: an absent latest value reads 8000h; DEVICE_ID reads A7h. -/
theorem test_readSnapshot :
    let t := after (.readSnapshot 0x80) (ported .address .read running)
    t.port.snapshot.map (fun w => (w.window[0], w.window[0x80], w.window[0x81])) = some (0xA7, 0x00, 0x80) := by
  decide +kernel

/-- R165: one byte of a channel does not acknowledge it; both do. -/
theorem test_readDataByte :
    let s := after (.readSnapshot 0x82) { ported .address .read running with
      port := { (ported .address .read running).port with acknowledge := true } }
    (after .readDataByte s).port.acknowledged = []
      ∧ (after .readDataByte (after .readDataByte s)).port.acknowledged = [1] := by decide +kernel

/-- R131, R161: a read with the modifier that ends before its address byte acknowledges nothing. -/
theorem test_acknowledgingRead_short :
    let s := after (.headerByte 0xC0) (ported .header .write (measured 2 100 0 10 running))
    (after (.acknowledgingRead 5) s).monitors = s.monitors ∧ (after (.acknowledgingRead 5) s).port.csnLow = false := by
  decide +kernel

/-- R131: the snapshot's value becomes the reference; the latest value as it stands is weighed. -/
theorem test_acknowledgingRead :
    let s := readThrough (measured 2 100 0 10 running)
    let t := after (.acknowledgingRead 0)
      { s with monitors := s.monitors.set 2 { s.monitors[2] with latest := some { value := 111, timestamp := 6 } } }
    (t.monitors[2]).reference = some 100 ∧ (t.monitors[2]).inSet = true ∧ (t.monitors[3]).reference = none := by
  decide +kernel

/-- R160: the first bit is the most significant: a one and seven zeros are the header 80h of a read. -/
theorem test_sampleBit :
    let edge (sdi : Bool) (s : State) : State :=
      match s.sampleBit sdi with
      | .next t => t
      | _ => s
    let s := [false, false, false, false, false, false].foldl (fun s b => edge b s) (edge true (ported .header .write running))
    s.port.phase = .header ∧ (edge false s).port.phase = .address ∧ (edge false s).port.direction = .read
      ∧ (edge false s).port.bits = [] := by decide +kernel

/-- R160: SDO is driven while CSN is low, at 0 outside the data bytes of a read, and is at high impedance otherwise. -/
theorem test_sdo : running.sdo = some 0x00 ∧ State.reset.sdo = none := by decide +kernel

/-- R146, R160: SDO is at high impedance while the part is held in reset, and is driven again at the end of the reset. -/
theorem test_sdo_held :
    (after .rstnLow running).sdo = none ∧ (after .rstnRise (after .rstnLow running)).sdo = some 0x00 := by decide +kernel

/-- R160: CSN rising ends the transaction. -/
theorem test_csnRise :
    (after (.csnRise 3) running).port.phase = .waiting ∧ (after (.csnRise 3) running).port.csnLow = false := by
  decide +kernel

/-! ### Resets, time and the trigger inputs -/

/-- R146: RSTN low abandons the transaction and returns the part to its reset values. -/
theorem test_rstnLow :
    let t := after .rstnLow (filled 3 .hold running)
    t.scheduler = .starting ∧ t.ring.entries = [] ∧ t.port.phase = .waiting := by decide +kernel

/-- R48: the last level is the pin's at the end of the reset. -/
theorem test_rstnRise :
    let s := after .rstnLow { running with pins := { running.pins with trig := #v[true, false] } }
    ((after .rstnRise s).triggers[0]).lastLevel = true ∧ (after .rstnRise s).held = false := by decide +kernel

/-- R94: POR returns the calibration records to NOMINAL. -/
theorem test_por :
    (after .por { running with calibration := Vector.replicate 4 { CalRecord.nominal with validity := .failed } }).calibration
      = Vector.replicate 4 CalRecord.nominal := by decide +kernel

/-- R137: the start-up interval begins when the supply is established. -/
theorem test_supplyEstablished :
    let t := after .supplyEstablished (after .por running)
    t.held = false ∧ t.scheduler = .starting := by decide +kernel

/-- R138: STOPPED with RUN_CHANGE. -/
theorem test_endOfStarting :
    (after .endOfStarting State.reset).scheduler = .stopped ∧ (after .endOfStarting State.reset).flagsHigh = 0x08 := by
  decide +kernel

/-- R35, R41, R50: the timebase wraps, and the countdowns decrease. -/
theorem test_tick :
    let t := after .tick (armed 3 2 (trigger 0 .rising 0 9 5 { running with timebase := 0xFFFFFFFF }))
    t.timebase = 0 ∧ (t.cadence[3]).countdown = 1 ∧ (t.triggers[0]).count = 4 := by decide +kernel

/-- R41: an expiry loads the period and posts. -/
theorem test_cadenceExpiry :
    let t := after (.cadenceExpiry 3) (armed 3 0 (paced 3 10 4 running))
    (t.cadence[3]).countdown = 10 ∧ t.seq.current = some (.cadence (Merged.fresh 3)) := by decide +kernel

/-- R41: expiries of one tick come in channel order. -/
theorem test_cadenceExpiry_order :
    let s := armed 5 0 (armed 3 0 running)
    after (.cadenceExpiry 5) s = s := by decide +kernel

/-- R50: the input is out of holdoff already, and nothing else changes. -/
theorem test_holdoffEnd : after (.holdoffEnd 0) running = running := by decide +kernel

/-- R48, R49: a rising edge on an input set to RISING posts its group and starts the holdoff. -/
theorem test_triggerEdge :
    let t := after (.triggerEdge 0 true) (trigger 0 .rising 1 9 0 (group 1 [2] running))
    t.seq.current = some (trg 1) ∧ (t.triggers[0]).count = 9 := by decide +kernel

/-- R49: an edge in holdoff is ignored, and its level recorded. -/
theorem test_triggerEdge_holdoff :
    let t := after (.triggerEdge 0 true) (trigger 0 .both 1 9 4 (group 1 [2] running))
    t.seq.current = none ∧ (t.triggers[0]).count = 4 ∧ (t.triggers[0]).lastLevel = true := by decide +kernel

/-! ### The sequencer and the reference -/

/-- R85, R90: an onset in SETTLING aborts with REFERENCE and halts; REF_FAULT, ABORTED. -/
theorem test_referenceOnset :
    let t := after .referenceOnset (working .settling (.immediate (imm 4)) 0 running)
    t.seq.converter = .halted ∧ t.ring.entries.map (·.draft.kind) = [.aborted .reference] ∧ t.flagsHigh = 0x03 := by
  decide +kernel

/-- R91: in RECOVERING the halt is pending. -/
theorem test_referenceOnset_recovering :
    let t := after .referenceOnset (converter .recovering running)
    t.seq.converter = .recovering ∧ t.seq.haltPending = true := by decide +kernel

/-- R91: the recovery of the reference leaves the converter HALTED. -/
theorem test_referenceRecovery :
    let t := after .referenceRecovery (converter .halted { running with refCondition := true })
    t.refCondition = false ∧ t.seq.converter = .halted := by decide +kernel

/-- R77: the sampling instant is the timebase at the end of settling. -/
theorem test_endOfSettling :
    let t := after .endOfSettling (working .settling (.immediate (imm 4)) 0 { running with timebase := 77 })
    t.seq.converter = .converting ∧ t.seq.sampledAt = 77 := by decide +kernel

/-- R102, R104: raw 40000 with the nominal record is 7232, UNCAL, with the request ended and IMM_DONE. -/
theorem test_conversionCompletion :
    let t := after (.conversionCompletion 40000) (working .converting (.immediate (imm 4)) 0 running)
    t.ring.entries.map (·.draft.kind) = [.sample 7232 { clip := false, uncal := true, dev := false }]
      ∧ t.seq.converter = .idle ∧ t.flagsLow = 0x09 := by decide +kernel

/-- R78: a group goes on with its next member. -/
theorem test_conversionCompletion_group :
    let t := after (.conversionCompletion 0) (working .converting (trg 1) 0 (group 1 [2, 6] running))
    t.seq.converter = .settling ∧ t.seq.position = 1 ∧ (t.seq.snapshot.map (·.positive)) = some 6 := by decide +kernel

/-- R97, R99: raw 32800 gives the offset constant 32, CAL_DONE and the entry. -/
theorem test_calibrationCompletion :
    let t := after (.calibrationCompletion 32800) (working .calibrating (cal .offset) 0 { running with timebase := 9 })
    t.calibration[0] = { validity := .calibrated, offset := 32, gain := 32768, calibratedAt := some 9 }
      ∧ t.ring.entries.map (·.draft.kind) = [.calibrationDone 32] ∧ t.flagsLow = 0x41 := by decide +kernel

/-- R98: a span of 27308 fails, and the record keeps its constants. -/
theorem test_calibrationCompletion_gain :
    (after (.calibrationCompletion 60076) (working .calibrating (cal .gain) 0 running)).calibration[0]
      = { validity := .failed, offset := 0, gain := 32768, calibratedAt := none } := by decide +kernel

/-- R81: IDLE and the arbitration that follows. -/
theorem test_endOfRecovery :
    (after .endOfRecovery (queued [imm 5] (converter .recovering running))).seq.converter = .settling := by
  decide +kernel

/-- R81: a pending halt is taken. -/
theorem test_endOfRecovery_halt :
    let s := converter .recovering running
    (after .endOfRecovery { s with seq := { s.seq with haltPending := true } }).seq.converter = .halted := by
  decide +kernel

/-! ### The statements' hypotheses are met

Each theorem below gives states and operands that meet the hypotheses of the statement it is named for, clause by
clause. -/

/-- An empty queue. -/
theorem witness_StepTakesTheFrontRow : State.reset.pending = [] := rfl

/-- A row that drives no pin, and one that cannot occur. -/
theorem witness_EveryRowAnswersANextState : drivesPins .tick = false ∧ occurs .tick State.reset = false := by
  decide +kernel

/-- The first and the last address of the window, and CMD. -/
theorem witness_DataBytesAndRowsAgree :
    (byteAt 0x00 running).inWrite 0x00 ∧ (byteAt 0xFF running).inWrite 0xFF ∧ running.inWrite 0x14
      ∧ Instr.start.wellFormed = true ∧ Instr.start.dataByte = some 0x01
      ∧ (Instr.unknownCommandCode 0xFF).wellFormed = true := by decide +kernel

/-- CMD and another address in STARTING. -/
theorem witness_DataBytesDuringStarting :
    (inState .starting).inWrite 0x14 ∧ (inState .starting).scheduler = .starting
      ∧ (byteAt 0x67 State.reset).inWrite 0x67 ∧ (byteAt 0x67 State.reset).scheduler = .starting := by decide +kernel

/-- A channel with offset 4. -/
theorem witness_StartArmsTheCadences :
    let s := paced 3 10 4 (enabled (inState .stopped))
    s.takesByteAt 0x14 ∧ s.scheduler = .stopped ∧ s.queues = .none ∧ (∀ c : Fin 16, (s.cadence[c]).armed = false)
      ∧ (∀ c : Fin 16, (s.channels[c]).cadenced = true → (s.channels[c]).offset ≠ 0)
      ∧ (s.channels[3]).cadenced = true := by decide +kernel

/-- Two channels at offset 0, the converter IDLE and then RECOVERING. -/
theorem witness_StartExpiresOffsetZeroInOrder :
    let s := paced 15 1 0 (paced 3 10 0 (enabled (inState .stopped)))
    let t := converter .recovering s
    (s.takesByteAt 0x14 ∧ s.scheduler = .stopped ∧ ∀ c : Fin 16, (s.cadence[c]).armed = false)
      ∧ (t.takesByteAt 0x14 ∧ t.scheduler = .stopped ∧ (∀ c : Fin 16, (t.cadence[c]).armed = false)
        ∧ t.seq.converter ≠ .idle ∧ t.active .cadence = true ∧ t.queues = .none) := by decide +kernel

/-- Each scheduler state, and the codes 00h, 06h and FFh. -/
theorem witness_RefusedRunCommandsAndUnknownCodes :
    (∀ k ∈ [Scheduler.stopped, .running, .pausing, .paused], (inState k).takesByteAt 0x14 ∧ (inState k).scheduler = k)
      ∧ ∀ c ∈ ([0x00, 0x06, 0xFF] : List Byte), c ∉ commandCodes := by decide +kernel

/-- RUNNING without and with a current request, and PAUSING. -/
theorem witness_PauseFollowsTheCurrentRequest :
    (running.takesByteAt 0x14 ∧ running.scheduler = .running)
      ∧ (inState .pausing).takesByteAt 0x14 ∧ (inState .pausing).scheduler = .pausing := by decide +kernel

/-- PAUSING; PAUSED with the converter HALTED; PAUSED with no request; PAUSED with one. -/
theorem witness_ResumeReturnsToRunning :
    ((inState .pausing).takesByteAt 0x14 ∧ (inState .pausing).scheduler = .pausing)
      ∧ ((converter .halted (inState .paused)).takesByteAt 0x14
        ∧ (converter .halted (inState .paused)).scheduler = .paused
        ∧ (converter .halted (inState .paused)).seq.converter ≠ .idle)
      ∧ (inState .paused).takesByteAt 0x14 ∧ (inState .paused).scheduler = .paused
        ∧ (inState .paused).queues = .none := by decide +kernel

/-- The three scheduler states that take a STOP. -/
theorem witness_StopEndsFlushesAndDisarms :
    ∀ k ∈ [Scheduler.running, .pausing, .paused], (inState k).takesByteAt 0x14 ∧ (inState k).scheduler = k := by
  decide +kernel

/-- STARTING; a member in flight; CALIBRATING; IDLE, RECOVERING and HALTED. -/
theorem witness_AbortCurrentEndsTheWorkInFlight :
    let s := working .settling (.immediate (imm 4)) 0 running
    ((inState .starting).inWrite 0x14 ∧ (inState .starting).scheduler = .starting)
      ∧ (s.inWrite 0x14 ∧ s.scheduler ≠ .starting ∧ s.seq.converter = .settling
        ∧ s.seq.current = some (.immediate (imm 4)) ∧ s.seq.members[s.seq.position]? = some 4)
      ∧ ∀ k ∈ [Converter.calibrating, .idle, .recovering, .halted],
        (converter k running).inWrite 0x14 ∧ (converter k running).scheduler ≠ .starting
          ∧ (converter k running).seq.converter = k := by decide +kernel

/-- Channel 15, posted to a free converter and to a busy one. -/
theorem witness_PostQueuesOrStartsARequest :
    let s := args 0 15 0x42 0 running
    let b := converter .recovering s
    let posted : State := { s with queues := { s.queues with immediate := s.queues.immediate ++ [imm 15] } }
    (s.takesByteAt 0x14 ∧ s.scheduler.accepts = true
      ∧ postTarget s.command.args[0] s.command.args[1] = some (.channel 15) ∧ (s.channels[15]).enabled = true
      ∧ s.active .immediate = true ∧ s.queues.immediate.length < 8)
      ∧ (s.free = true ∧ s.queues = .none ∧ posted.search = some (1, .immediate))
      ∧ b.takesByteAt 0x14 ∧ b.scheduler.accepts = true ∧ b.active .immediate = true ∧ b.free = false := by
  decide +kernel

/-- A post for each check: the state, a number of 16, an undefined group, the phase, the enable, and a full queue. -/
theorem witness_PostRefusalsInOrder :
    let bad := args 0 16 0 0 running
    let undef := args 1 3 0 0 running
    let good := args 0 5 0 0 running
    let lone := oneSlot .cadence good
    let dis := args 0 5 0 0 (inState .running)
    let full := queued (List.replicate 8 (imm 5)) good
    (inState .stopped).takesByteAt 0x14 ∧ (inState .stopped).scheduler = .stopped
      ∧ bad.takesByteAt 0x14 ∧ bad.scheduler ≠ .stopped ∧ postTarget bad.command.args[0] bad.command.args[1] = none
      ∧ undef.takesByteAt 0x14 ∧ postTarget undef.command.args[0] undef.command.args[1] = some (.group 3)
      ∧ undef.groups[3] = []
      ∧ lone.takesByteAt 0x14 ∧ postTarget lone.command.args[0] lone.command.args[1] = some (.channel 5)
      ∧ lone.active .immediate = false
      ∧ dis.takesByteAt 0x14 ∧ postTarget dis.command.args[0] dis.command.args[1] = some (.channel 5)
      ∧ dis.active .immediate = true ∧ (dis.channels[5]).enabled = false
      ∧ full.takesByteAt 0x14 ∧ full.active .immediate = true ∧ (full.channels[5]).enabled = true
      ∧ 8 ≤ full.queues.immediate.length := by decide +kernel

/-- One state for each check, and one that passes. -/
theorem witness_SoftTriggerActsAsAnAcceptedTrigger :
    let off := args 1 0 0 0 running
    let hold := trigger 1 .both 2 9 1 off
    let good := trigger 1 .both 2 9 0 (group 2 [7] off)
    (inState .stopped).takesByteAt 0x14 ∧ (inState .stopped).scheduler = .stopped
      ∧ (args 2 0 0 0 running).takesByteAt 0x14 ∧ 2 ≤ ((args 2 0 0 0 running).command.args[0]).toNat
      ∧ off.takesByteAt 0x14 ∧ off.scheduler ≠ .stopped ∧ (off.command.args[0]).toNat = 1
      ∧ (off.triggers[1]).record.edge = .off
      ∧ hold.takesByteAt 0x14 ∧ (hold.triggers[1]).record.edge ≠ .off ∧ (hold.triggers[1]).count ≠ 0
      ∧ good.takesByteAt 0x14 ∧ (good.triggers[1]).record.edge ≠ .off ∧ (good.triggers[1]).count = 0
      ∧ good.active .triggered = true ∧ (oneSlot .cadence good).takesByteAt 0x14
      ∧ (oneSlot .cadence good).active .triggered = false := by decide +kernel

/-- One state for each check, and one that passes with the converter busy. -/
theorem witness_CalibratePostsInBitOrder :
    let none := args 0 0 0 0 running
    let all := args 0xFF 0 0 0 running
    (inState .stopped).takesByteAt 0x14 ∧ (inState .stopped).scheduler = .stopped
      ∧ none.takesByteAt 0x14 ∧ none.scheduler ≠ .stopped ∧ none.command.args[0] = 0
      ∧ all.takesByteAt 0x14 ∧ all.command.args[0] ≠ 0 ∧ all.active .maintenance = true
      ∧ (oneSlot .cadence all).takesByteAt 0x14 ∧ (oneSlot .cadence all).active .maintenance = false
      ∧ (converter .halted all).takesByteAt 0x14 ∧ (converter .halted all).free = false := by decide +kernel

/-- The last record of a table, and an index and a table just past the last. -/
theorem witness_TableReadCopiesTheRecord :
    let s (table index : Byte) := args table index 0 0 running
    let name (table index : Byte) := recordOf ((s table index).command.args[0]) ((s table index).command.args[1])
    (s 6 15).takesByteAt 0x14 ∧ name 6 15 = some (.monitor 15) ∧ (s 6 16).takesByteAt 0x14 ∧ name 6 16 = none
      ∧ (s 7 0).takesByteAt 0x14 ∧ name 7 0 = none := by decide +kernel

/-- A record staged whose period is 5 and offset 4, in STOPPED; the same channel without cadence, RUNNING; a refused one. -/
theorem witness_ChannelWriteStoresTheRecord :
    let s := args 1 15 0 0 (staged (channelBytes 1 5 4 7) (enabled (inState .stopped)))
    let t := args 1 15 0 0 (staged (channelBytes 1 0 4 7) running)
    let u := args 1 15 0 0 (staged (channelBytes 1 5 5 7) running)
    (parseChannel s.command.staging = .ok (channelOf true 5 4 7)
      ∧ parseChannel t.command.staging = .ok (channelOf true 0 4 7)
      ∧ parseChannel u.command.staging = .error .offset)
    ∧ s.takesByteAt 0x14 ∧ recordOf s.command.args[0] s.command.args[1] = some (.channel 15) ∧ s.scheduler = .stopped
      ∧ t.takesByteAt 0x14 ∧ (channelOf true 0 4 7).cadenced = (t.channels[15]).cadenced ∧ u.takesByteAt 0x14 :=
  ⟨⟨rfl, rfl, rfl⟩, by decide +kernel⟩

/-- A write that arms channel 15 at offset 4, one that sets its period to 0, one that stores what stands, and one in
STOPPED. -/
theorem witness_ChannelWriteGovernsTheCadence :
    let arms := args 1 15 0 0 (staged (channelBytes 1 5 4 7) running)
    let disarms := args 1 15 0 0 (staged (channelBytes 1 0 0 7) (armed 15 3 (paced 15 10 4 running)))
    let keeps := args 1 15 0 0 (staged (channelBytes 1 10 4 7) (armed 15 3 (paced 15 10 4 running)))
    let stops := args 1 15 0 0 (staged (channelBytes 1 5 0 7) (inState .stopped))
    (parseChannel arms.command.staging = .ok (channelOf true 5 4 7)
      ∧ parseChannel disarms.command.staging = .ok (channelOf true 0 0 7)
      ∧ parseChannel keeps.command.staging = .ok (channelOf true 10 4 7)
      ∧ parseChannel stops.command.staging = .ok (channelOf true 5 0 7))
    ∧ (∀ s ∈ [arms, disarms, keeps, stops],
        s.takesByteAt 0x14 ∧ recordOf s.command.args[0] s.command.args[1] = some (.channel 15))
      ∧ (channelOf true 0 0 7).cadenced = false ∧ (disarms.channels[15]).cadenced = true
      ∧ (keeps.channels[15]).cadenced = true ∧ (keeps.channels[15]).period = 10 ∧ (keeps.channels[15]).offset = 4
      ∧ stops.scheduler = .stopped :=
  ⟨⟨rfl, rfl, rfl, rfl⟩, by decide +kernel⟩

/-- A write that arms channel 15 at offset 0: dropped, coalesced, queued. -/
theorem witness_ChannelWriteAtOffsetZeroExpires :
    let s := args 1 15 0 0 (staged (channelBytes 1 5 0 7) running)
    let dropped := oneSlot .immediate s
    let merged : State := { s with queues := { s.queues with cadence := [Merged.fresh 15] } }
    parseChannel s.command.staging = .ok (channelOf true 5 0 7)
    ∧ s.takesByteAt 0x14 ∧ recordOf s.command.args[0] s.command.args[1] = some (.channel 15) ∧ s.scheduler ≠ .stopped
      ∧ (channelOf true 5 0 7).cadenced = true ∧ (s.channels[15]).cadenced = false
      ∧ dropped.takesByteAt 0x14 ∧ dropped.active .cadence = false
      ∧ merged.takesByteAt 0x14 ∧ merged.active .cadence = true ∧ pendingFor 15 merged.queues.cadence = true
      ∧ s.active .cadence = true ∧ pendingFor 15 s.queues.cadence = false :=
  ⟨rfl, by decide +kernel⟩

/-- A disable of channel 4 while its member is in flight. -/
theorem witness_DisableWithdrawsTheChannel :
    let s := args 1 4 0 0 (staged (channelBytes 0 5 0 7) (working .settling (.immediate (imm 4)) 0 running))
    parseChannel s.command.staging = .ok (channelOf false 5 0 7)
    ∧ s.takesByteAt 0x14 ∧ recordOf s.command.args[0] s.command.args[1] = some (.channel 4)
      ∧ (s.channels[4]).enabled = true ∧ (channelOf false 5 0 7).enabled = false :=
  ⟨rfl, by decide +kernel⟩

/-- A list of 8 and of 9, and a record with edge code 3 and 4. -/
theorem witness_GroupAndTriggerWrites :
    let g := args 2 3 0 0 (staged [8, 0, 1, 2, 3, 4, 5, 6, 15] running)
    let h := args 2 3 0 0 (staged [9] running)
    let t := args 3 1 0 0 (staged [3, 2, 9, 0] running)
    let u := args 3 1 0 0 (staged [4] running)
    (parseGroup g.command.staging = .ok [0, 1, 2, 3, 4, 5, 6, 15] ∧ parseGroup h.command.staging = .error .memberCount
      ∧ parseTrigger t.command.staging = .ok { edge := .both, group := 2, holdoff := 9 }
      ∧ parseTrigger u.command.staging = .error .edgeCode)
    ∧ g.takesByteAt 0x14 ∧ recordOf g.command.args[0] g.command.args[1] = some (.group 3)
      ∧ t.takesByteAt 0x14 ∧ recordOf t.command.args[0] t.command.args[1] = some (.trigger 1) :=
  ⟨⟨rfl, rfl, rfl, rfl⟩, by decide +kernel⟩

/-- The reset bank staged, a length of 33, and the read-only and missing records. -/
theorem witness_StandbyBankAndReadOnlyWrites :
    let s := args 4 0 0 0 (staged PhaseBank.reset.bytes running)
    let t := args 4 0 0 0 (staged [33] running)
    let name (a b : Byte) := recordOf ((args a b 0 0 running).command.args[0]) ((args a b 0 0 running).command.args[1])
    (parsePhase s.command.staging = .ok .reset ∧ parsePhase t.command.staging = .error .length)
    ∧ s.takesByteAt 0x14 ∧ recordOf s.command.args[0] s.command.args[1] = some .standbyBank ∧ t.takesByteAt 0x14
      ∧ (args 4 1 0 0 running).takesByteAt 0x14 ∧ name 4 1 = some .activeBank ∧ name 4 2 = none
      ∧ name 5 3 = some (.calibration 3) ∧ name 6 15 = some (.monitor 15) :=
  ⟨⟨rfl, rfl⟩, by decide +kernel⟩

/-- The records after reset. -/
theorem witness_RecordsReadAndWrittenBackAreTheSame :
    (ChannelRecord.reset 15).Valid ∧ ([0, 15] : List (Fin 16)).length ≤ 8 ∧ ([0, 15] : List (Fin 16)).Nodup
      ∧ PhaseBank.reset.Valid := by decide +kernel

/-- A byte at CMD. -/
theorem witness_SwapExchangesTheBanks : running.inWrite 0x14 ∧ (inState .starting).inWrite 0x14 := by decide +kernel

/-- An empty ring and one of 64 entries. -/
theorem witness_ReleaseRemovesThroughTheNamedEntry :
    running.takesByteAt 0x14 ∧ running.ring.entries = [] ∧ (filled 64 .hold running).takesByteAt 0x14
      ∧ 0 < (filled 64 .hold running).ring.entries.length := by decide +kernel

/-- STARTING and another state, with the least watermark. -/
theorem witness_ClearEmptiesTheRing :
    ((inState .starting).inWrite 0x14 ∧ (inState .starting).scheduler = .starting)
      ∧ running.inWrite 0x14 ∧ running.scheduler ≠ .starting ∧ 0 < running.ring.watermark := by decide +kernel

/-- STARTING; a policy code of 2, watermarks of 0 and 65; both codes with 1 and 64, on a full ring. -/
theorem witness_ConfigStoresPolicyAndWatermark :
    let conf (p w : Byte) := args p w 0 0 (filled 64 .hold running)
    ((inState .starting).inWrite 0x14 ∧ (inState .starting).scheduler = .starting)
      ∧ (conf 2 1).inWrite 0x14 ∧ (conf 2 1).scheduler ≠ .starting
      ∧ (conf 2 1).command.args[0] ≠ 0x00 ∧ (conf 2 1).command.args[0] ≠ 0x01
      ∧ ((conf 0 0).command.args[1]).toNat = 0 ∧ 64 < ((conf 0 65).command.args[1]).toNat
      ∧ (conf 1 64).inWrite 0x14 ∧ (conf 1 64).command.args[0] = 0x01 ∧ ((conf 1 64).command.args[1]).toNat ≤ 64
      ∧ (conf 0 1).inWrite 0x14 ∧ (conf 0 1).command.args[0] = 0x00 ∧ 1 ≤ ((conf 0 1).command.args[1]).toNat
      ∧ (conf 1 64).ring.full = true := by decide +kernel

/-- Channels 15 and 16, presence codes 0, 1 and 2. -/
theorem witness_SetReferenceSetsAndEvaluates :
    let s (c p : Byte) := args c p 0x34 0x12 running
    (s 16 1).takesByteAt 0x14 ∧ 16 ≤ ((s 16 1).command.args[0]).toNat
      ∧ (s 15 2).takesByteAt 0x14 ∧ (s 15 2).command.args[1] ≠ 0x00 ∧ (s 15 2).command.args[1] ≠ 0x01
      ∧ (s 15 0).takesByteAt 0x14 ∧ ((s 15 0).command.args[0]).toNat = 15 ∧ (s 15 0).command.args[1] = 0x00
      ∧ (s 15 1).takesByteAt 0x14 ∧ (s 15 1).command.args[1] = 0x01 := by decide +kernel

/-- RUNNING; STOPPED with a selection of 4 and of 3. -/
theorem witness_SetTickStoresTheSelection :
    let s (a : Byte) := args a 0 0 0 (inState .stopped)
    running.takesByteAt 0x14 ∧ running.scheduler ≠ .stopped
      ∧ (s 4).takesByteAt 0x14 ∧ (s 4).scheduler = .stopped ∧ 3 < ((s 4).command.args[0]).toNat
      ∧ (s 3).takesByteAt 0x14 ∧ ((s 3).command.args[0]).toNat = (3 : BitVec 2).toNat := by decide +kernel

/-- A byte at 18h, and at 19h without and with a one at bit 0. -/
theorem witness_OnesClearLatchedFlags :
    (byteAt 0x18 running).takesByteAt 0x18 ∧ (byteAt 0x19 running).takesByteAt 0x19 ∧ (0xFE : Byte).getLsbD 0 = false
      ∧ (0xFF : Byte).getLsbD 0 = true := by decide +kernel

/-- The condition present; a halt pending; neither, with the converter IDLE and HALTED, RUNNING and not. -/
theorem witness_RefFaultClearIsDecidedByTheMonitor :
    let s := byteAt 0x19 running
    let h := converter .halted (byteAt 0x19 (inState .paused))
    s.takesByteAt 0x19 ∧ (0x01 : Byte).getLsbD 0 = true ∧ s.refCondition = false ∧ s.seq.haltPending = false
      ∧ s.seq.converter ≠ .halted
      ∧ ({ s with refCondition := true } : State).takesByteAt 0x19
      ∧ ({ s with seq := { s.seq with haltPending := true } } : State).takesByteAt 0x19
      ∧ h.takesByteAt 0x19 ∧ h.refCondition = false ∧ h.seq.haltPending = false ∧ h.seq.converter = .halted
      ∧ h.scheduler ≠ .running := by decide +kernel

/-- A byte at each of the three addresses. -/
theorem witness_EnablesStoreAndAlertnFollows :
    (byteAt 0x1A running).takesByteAt 0x1A ∧ (byteAt 0x1B running).takesByteAt 0x1B
      ∧ (byteAt 0x1C running).takesByteAt 0x1C := by decide +kernel

/-- A byte at each of the two addresses. -/
theorem witness_DeviationClearsAreDecidedOneByOne :
    (byteAt 0x1E running).takesByteAt 0x1E ∧ (byteAt 0x1F running).takesByteAt 0x1F := by decide +kernel

/-- The first and the last argument, the first and the last staging byte, and their neighbours. -/
theorem witness_RegisterWritesStoreOrAreIgnored :
    ∀ a ∈ ([0x10, 0x13, 0x40, 0x67, 0x0F, 0x15, 0x3F, 0x68, 0xFF] : List Byte),
      (byteAt a running).takesByteAt a ∧ a ∉ ownRowAddresses := by decide +kernel

/-- Each step of a transaction; no bit taken, six and seven; CSN high, and the part held. -/
theorem witness_TransactionFrame :
    let held := after .rstnLow State.reset
    let bits (n : Nat) (s : State) : State :=
      { s with port := { s.port with bits := (List.range n).map fun k => (0x80 : Byte).getMsbD k } }
    (State.reset.port.csnLow = false ∧ State.reset.held = false) ∧ (held.port.csnLow = false ∧ held.held = true)
      ∧ (ported .header .write running).port.phase = .header
      ∧ ((ported .address .write running).port.phase = .address
        ∧ (ported .address .write running).port.direction = .write)
      ∧ (running.port.csnLow = true ∧ running.port.acknowledging = false ∧ running.held = false)
      ∧ (bits 0 running).port.bits.length < 7 ∧ (bits 6 running).port.bits.length < 7
      ∧ (bits 7 running).port.bits = [true, false, false, false, false, false, false] := by decide +kernel

/-- The address byte and the data bytes of a read; SDO with CSN high, while held, at the first and the last bit of a byte
shown, and outside the data of a read. -/
theorem witness_ReadsSeeOneSnapshot :
    let s := readThrough running
    let last : State := { s with port := { s.port with bits := List.replicate 7 false } }
    s.port.snapshot = some s.takeSnapshot
    ∧ ((ported .address .read running).port.phase = .address ∧ (ported .address .read running).port.direction = .read)
      ∧ (s.port.phase = .data ∧ s.port.direction = .read)
      ∧ State.reset.port.csnLow = false ∧ (after .rstnLow running).held = true
      ∧ s.port.csnLow = true ∧ s.held = false ∧ s.port.bits.length = (0 : Fin 8).val
      ∧ last.port.bits.length = (7 : Fin 8).val
      ∧ running.port.csnLow = true ∧ running.held = false ∧ running.port.direction = .write :=
  ⟨rfl, by decide +kernel⟩

/-- An empty ring and one with an entry; a channel without and with a latest value; unlisted addresses. -/
theorem witness_WindowShowsTheState :
    running.ring.entries = [] ∧ (filled 1 .hold running).ring.entries = [{ seq := 0, lossBefore := none, draft := draft }]
      ∧ (running.monitors[0]).latest = none
      ∧ ((measured 15 1 2 3 running).monitors[15]).latest = some { value := 1, timestamp := 5 }
      ∧ (0x0F : Byte).toNat = 15 ∧ (0x1D : Byte).toNat = 29 ∧ (0x27 : Byte).toNat = 39 ∧ (0x2F : Byte).toNat < 48
      ∧ (0x68 : Byte).toNat = 104 ∧ (0x7F : Byte).toNat < 128 ∧ (0xA0 : Byte).toNat = 160 := by decide +kernel

/-- A read with the modifier through the whole latest-value window, and one that has had its header only. -/
theorem witness_AcknowledgingReadSetsReferences :
    let s := readThrough (measured 15 100 0 10 running)
    let short := after (.headerByte 0xC0) (ported .header .write running)
    s.port.snapshot = some (measured 15 100 0 10 running).takeSnapshot
    ∧ s.port.csnLow = true ∧ s.port.acknowledging = true
      ∧ short.port.csnLow = true ∧ short.port.acknowledging = true ∧ short.port.snapshot = none :=
  ⟨rfl, by decide +kernel⟩

/-- A part in use, and one held by each pin. -/
theorem witness_ResetsReturnEveryBlock :
    running.takesByteAt 0x14 ∧ (after .rstnLow running).pins.rstnLow = true
      ∧ (after .por running).pins.supplyDown = true := by decide +kernel

/-- The part after reset. -/
theorem witness_EndOfStartingEntersStopped : State.reset.scheduler = .starting ∧ State.reset.held = false := by
  decide +kernel

/-- No expiry due; one due; a holdoff at 0. -/
theorem witness_TickMovesEveryCount :
    let s := armed 15 0 (paced 15 10 4 running)
    running.scheduler ≠ .starting ∧ running.nextExpiry = none
      ∧ s.nextExpiry = some 15 ∧ (s.channels[15]).period ≠ 0 ∧ (s.triggers[1]).count = 0 := by decide +kernel

/-- An expiry dropped, coalesced, queued. -/
theorem witness_ExpiryReloadsAndPosts :
    let s := armed 15 0 (paced 15 10 4 running)
    let dropped := oneSlot .immediate s
    let merged : State := { s with queues := { s.queues with cadence := [Merged.fresh 15] } }
    s.nextExpiry = some 15 ∧ s.active .cadence = true ∧ pendingFor 15 s.queues.cadence = false
      ∧ dropped.nextExpiry = some 15 ∧ dropped.active .cadence = false
      ∧ merged.nextExpiry = some 15 ∧ pendingFor 15 merged.queues.cadence = true := by decide +kernel

/-- An edge while held; one that is not accepted; one dropped, one coalesced, one queued. -/
theorem witness_EdgesAreRecordedAndAccepted :
    let held := after .rstnLow running
    let s := trigger 1 .rising 2 9 0 (group 2 [7] running)
    let dropped := oneSlot .cadence s
    let merged : State := { s with queues := { s.queues with triggered := [Merged.fresh 2] } }
    held.pins.trig[1] ≠ true ∧ held.held = true
      ∧ running.pins.trig[1] ≠ true ∧ running.held = false ∧ (running.triggers[1]).record.edge = .off
      ∧ s.pins.trig[1] ≠ true ∧ s.held = false ∧ (s.triggers[1]).lastLevel ≠ true ∧ s.scheduler.accepts = true
      ∧ (s.triggers[1]).count = 0 ∧ (s.triggers[1]).record.edge = .rising ∧ s.active .triggered = true
      ∧ pendingFor 2 s.queues.triggered = false ∧ dropped.active .triggered = false
      ∧ pendingFor 2 merged.queues.triggered = true := by decide +kernel

/-- STARTING, and a state out of it. -/
theorem witness_ReferenceOnsetHaltsTheConverter :
    State.reset.scheduler = .starting ∧ running.scheduler ≠ .starting := by decide +kernel

/-- SETTLING; CONVERTING with a disabled member and then an enabled one behind it; with disabled ones only. -/
theorem witness_MembersAreSampledAndCompleted :
    let s := enabled (inState .running)
    let off : State := { s with channels := s.channels.set 6 (.reset 6) }
    let t := working .converting (trg 1) 0 (group 1 [2, 6, 7] off)
    let u := working .converting (trg 1) 0 (group 1 [2, 6] off)
    (working .settling (trg 1) 0 t).seq.converter = .settling
      ∧ t.seq.converter = .converting ∧ t.seq.current = some (trg 1) ∧ t.seq.members[t.seq.position]? = some 2
      ∧ t.seq.snapshot = some { positive := 0, negative := .common, gain := 0, settling := 4 }
      ∧ (∀ e ∈ ([6] : List (Fin 16)), (t.channels[e]).enabled = false)
      ∧ t.seq.members.drop (t.seq.position + 1) = [6] ++ 7 :: [] ∧ (t.channels[7]).enabled = true
      ∧ u.seq.converter = .converting ∧ u.seq.members[u.seq.position]? = some 2
      ∧ u.seq.members.drop (u.seq.position + 1) = [6] := by decide +kernel

/-- A calibration of either kind. -/
theorem witness_CalibrationsComplete :
    ∀ k ∈ [CalKind.offset, .gain], (working .calibrating (cal k) 0 running).seq.converter = .calibrating
      ∧ (working .calibrating (cal k) 0 running).seq.current = some (cal k) := by decide +kernel

/-- A pending halt; a group with a disabled member and an enabled one left; with a disabled one only; no request. -/
theorem witness_RecoveriesEnd :
    let s := enabled (inState .running)
    let off : State := { s with channels := s.channels.set 6 (.reset 6) }
    let t := working .recovering (trg 1) 1 (group 1 [2, 6, 7] off)
    let u := working .recovering (trg 1) 1 (group 1 [2, 6] off)
    let v := converter .recovering s
    (({ v with seq := { v.seq with haltPending := true } } : State).seq.converter = .recovering)
      ∧ t.seq.converter = .recovering ∧ t.seq.haltPending = false ∧ t.seq.current = some (trg 1)
      ∧ (t.channels[6]).enabled = false ∧ t.seq.members.drop t.seq.position = [6] ++ 7 :: []
      ∧ (t.channels[7]).enabled = true
      ∧ u.seq.current = some (trg 1) ∧ u.seq.members.drop u.seq.position = [6]
      ∧ v.seq.converter = .recovering ∧ v.seq.haltPending = false ∧ v.seq.current = none := by decide +kernel

/-- A converter that is not IDLE; empty queues; a calibration; a group with a disabled member ahead; one with none enabled. -/
theorem witness_ArbitrationGrantsTheHead :
    let s := running
    let m : State := { s with queues := { s.queues with maintenance := [Merged.fresh { kind := .gain, gain := 3 }] } }
    let off : State := { s with channels := s.channels.set 6 (.reset 6) }
    let wait (t : State) : State := { t with queues := { t.queues with triggered := [Merged.fresh 1] } }
    let g := wait (group 1 [6, 7] off)
    let h := wait (group 1 [6] off)
    (converter .halted s).free = false ∧ s.queues = .none
      ∧ m.free = true ∧ m.search = some (7, .maintenance)
      ∧ m.queues.take .maintenance = some (.maintenance (Merged.fresh { kind := .gain, gain := 3 }), .none)
      ∧ g.free = true ∧ g.search = some (3, .triggered) ∧ g.queues.take .triggered = some (trg 1, .none)
      ∧ (g.grant 3 (trg 1) .none).seq.members = [6] ++ 7 :: [] ∧ (g.channels[6]).enabled = false
      ∧ (g.channels[7]).enabled = true
      ∧ h.free = true ∧ h.search = some (3, .triggered) ∧ (h.grant 3 (trg 1) .none).seq.members = [6] := by
  decide +kernel

/-- 63 entries, and 64 under each policy. -/
theorem witness_EntriesArePlacedDiscardedOrReplace :
    (filled 63 .hold running).ring.entries.length < 64 ∧ 64 ≤ (filled 64 .hold running).ring.entries.length
      ∧ (filled 64 .hold running).ring.policy = .hold ∧ (filled 64 .overwrite running).ring.policy = .overwrite := by
  decide +kernel

/-- The nominal record. -/
theorem witness_CorrectionRoundsThenClips : CalRecord.nominal.Valid := by decide +kernel

/-- The least and the greatest constants accepted. -/
theorem witness_CalibrationOutcomes :
    calOutcome .offset 30720 .nominal = some 0xF800 ∧ calOutcome .offset 34816 .nominal = some 0x0800
      ∧ calOutcome .gain 55110 .nominal = some 36045 ∧ calOutcome .gain 60075 .nominal = some 29491 := by decide +kernel

/-- For RingFormIsKept, CalibrationRecordsStayValid, DeviationsStayReported, CadenceFollowsTheTableAndScheduler,
ScheduleStaysSound and EntriesStayValid: a member in flight, with its end of settling to come, meets every invariant. -/
theorem witness_invariants :
    let s := { working .settling (.immediate (imm 4)) 0 running with pending := [.endOfSettling] }
    (s.ScheduleSound ∧ s.EntriesValid ∧ s.ring.Form ∧ s.CalibrationValid ∧ s.DeviationReported ∧ s.CadenceFollowsTable)
      ∧ ∃ t, step s = .next t := by
  refine ⟨?_, _, rfl⟩
  and_intros <;> decide +kernel

/-- The state after reset meets the invariant of the schedule. -/
theorem witness_reset_scheduleSound : State.reset.ScheduleSound := by
  and_intros <;> decide +kernel

end Sys2Proof.Tests
end

section
/-! SUPPORT. What the codes and the staged bytes decode to. -/

namespace Sys2Proof.Machine

/-- A byte below `n` is that number. -/
theorem byteFin_eq_some {n : Nat} {b : Byte} {x : Fin n} : byteFin n b = some x ↔ x.val = b.toNat := by
  unfold byteFin
  split
  · simp [Fin.ext_iff, eq_comm]
  · next h => simpa using fun hx : x.val = b.toNat => h (hx ▸ x.isLt)

theorem byteFin_eq_none {n : Nat} {b : Byte} : byteFin n b = none ↔ n ≤ b.toNat := by
  simp [byteFin]

/-- Bytes below `n` throughout are those numbers, in order. -/
theorem mapM_byteFin_eq_some {n : Nat} {l : List Byte} {m : List (Fin n)} :
    l.mapM (byteFin n) = some m ↔ m.map Fin.val = l.map BitVec.toNat := by
  induction l generalizing m with
  | nil => simp
  | cons b l ih =>
    simp only [List.mapM_cons, Option.bind_eq_bind, Option.bind_eq_some_iff, Option.pure_def, ih, byteFin_eq_some,
      List.map_cons, List.map_eq_cons_iff, Option.some.injEq]
    constructor
    · rintro ⟨x, hx, l', hl', rfl⟩
      exact ⟨x, l', rfl, hx, hl'⟩
    · rintro ⟨x, l', rfl, hx, hl'⟩
      exact ⟨x, hx, l', hl', rfl⟩

theorem mapM_byteFin_eq_none {n : Nat} {l : List Byte} : l.mapM (byteFin n) = none ↔ ∃ v ∈ l, n ≤ v.toNat := by
  induction l with
  | nil => simp
  | cons b l ih =>
    cases hb : byteFin n b with
    | none => simp [hb, byteFin_eq_none.mp hb]
    | some x =>
      have hlt : ¬ n ≤ b.toNat := fun hn => by simp [byteFin_eq_none.mpr hn] at hb
      cases hl : l.mapM (byteFin n) <;> simp_all

end Sys2Proof.Machine
end

section
/-! SUPPORT. What the shared operations do when they come in a row: several ring entries, several skipped members, a
member's turn and a grant, and what a command leaves. -/

namespace Sys2Proof.Machine

/-! ### Several flags -/

/-- The alert unit depends on the flags set only. -/
theorem Alerts.also_congr {f g : Flag → Bool} (a : Alerts) (h : ∀ x, f x = g x) : a.also f = a.also g := by
  rw [funext h]

/-! ### Several entries handed to the ring -/

@[simp] theorem Ring.handAll_nil (r : Ring) : r.handAll [] = r := rfl

@[simp] theorem Ring.handAll_cons (d : Draft) (ds : List Draft) (r : Ring) :
    r.handAll (d :: ds) = (r.hand d).handAll ds := rfl

theorem Ring.handAll_append (ds es : List Draft) (r : Ring) : r.handAll (ds ++ es) = (r.handAll ds).handAll es :=
  List.foldl_append

@[simp] theorem Ring.loses_nil (r : Ring) : r.loses [] = false := rfl

/-- An entry handed to a ring with room makes it one longer; a full ring keeps its length, under either policy. -/
theorem Ring.hand_length (d : Draft) (r : Ring) :
    (r.hand d).entries.length = if r.entries.length < 64 then r.entries.length + 1 else r.entries.length := by
  obtain ⟨hroom, h⟩ | ⟨hfull, -, h⟩ | ⟨hfull, -, h⟩ := r.hand_cases d
  · simp [h, Ring.place, hroom]
  · simp [h, Ring.discard, Ring.countLoss, Nat.not_lt.mpr hfull]
  · simp [h, Ring.place, Ring.dropHead, Ring.countLoss, Nat.not_lt.mpr hfull]; omega

theorem Ring.full_iff (r : Ring) : r.full = true ↔ 64 ≤ r.entries.length := decide_eq_true_iff

theorem Ring.loses_iff (ds : List Draft) (r : Ring) :
    r.loses ds = true ↔ ds ≠ [] ∧ 64 < r.entries.length + ds.length := by
  cases ds with
  | nil => simp
  | cons d ds =>
    simp only [Ring.loses, List.isEmpty_cons, Bool.not_false, Bool.true_and, ne_eq, reduceCtorEq, not_false_eq_true,
      true_and]
    exact ⟨of_decide_eq_true, fun h => decide_eq_true h⟩

/-- A loss among several entries is one at the first or one at the rest. -/
theorem Ring.loses_cons (d : Draft) (ds : List Draft) (r : Ring) :
    r.loses (d :: ds) = (r.full || (r.hand d).loses ds) := by
  have hlength := r.hand_length d
  rw [Bool.eq_iff_iff, Bool.or_eq_true, Ring.loses_iff, Ring.loses_iff, Ring.full_iff, hlength]
  cases ds with
  | nil => simp
  | cons e es => simp only [List.length_cons, ne_eq, reduceCtorEq, not_false_eq_true, true_and]; split <;> omega

/-- A loss among two lots of entries is one in either lot. -/
theorem Ring.loses_append (ds es : List Draft) (r : Ring) :
    r.loses (ds ++ es) = (r.loses ds || (r.handAll ds).loses es) := by
  induction ds generalizing r with
  | nil => simp
  | cons d ds ih => simp [Ring.loses_cons, ih, Bool.or_assoc]

/-- The flags that ABORTED entries set, handed in order to this ring. -/
def Ring.abortFlags (ds : List Draft) (r : Ring) : Flag → Bool
  | .aborted => !ds.isEmpty
  | .ringLoss => r.loses ds
  | _ => false

@[simp] theorem Ring.abortFlags_nil (r : Ring) (f : Flag) : r.abortFlags [] f = false := by
  cases f <;> rfl

/-- The flags of the first entry, and those of the rest. -/
theorem Ring.abortFlags_cons (d : Draft) (ds : List Draft) (r : Ring) (f : Flag) :
    r.abortFlags (d :: ds) f =
      ((r.full && decide (f = .ringLoss) || decide (f = .aborted)) || (r.hand d).abortFlags ds f) := by
  cases f <;> simp [Ring.abortFlags, Ring.loses_cons]

/-- The flags of two lots of entries. -/
theorem Ring.abortFlags_append (ds es : List Draft) (r : Ring) (f : Flag) :
    r.abortFlags (ds ++ es) f = (r.abortFlags ds f || (r.handAll ds).abortFlags es f) := by
  cases f with
  | ringLoss => exact r.loses_append ds es
  | aborted => cases ds <;> simp [Ring.abortFlags]
  | immDone | cadOverrun | trgOverrun | calDone | calFail | refFault | cmdError | runChange => rfl

/-- Several ABORTED entries produced, in order (R80). -/
def State.abortEntries (ds : List Draft) (s : State) : State :=
  { s with ring := s.ring.handAll ds, alerts := s.alerts.also (s.ring.abortFlags ds) }

@[simp] theorem State.abortEntries_nil (s : State) : s.abortEntries [] = s := by
  rw [State.abortEntries, Alerts.also_congr _ s.ring.abortFlags_nil]
  simp

theorem State.abortEntries_cons (d : Draft) (ds : List Draft) (s : State) :
    s.abortEntries (d :: ds) = (s.produceAborted d).abortEntries ds := by
  simp only [State.abortEntries, State.produceAborted_eq, Alerts.also_also, Ring.handAll_cons]
  rw [Alerts.also_congr _ (s.ring.abortFlags_cons d ds)]

/-! ### Members skipped -/

/-- The DISABLED entries of the members `l` of request `r`, the first at position `p` (R76, R80). -/
def State.skipDrafts (r : Request) (p : Nat) (l : List (Fin 16)) (s : State) : List Draft :=
  l.mapIdx fun k c => s.memberDraft .disabled r c (p + k)

theorem State.skipDrafts_cons (r : Request) (p : Nat) (c : Fin 16) (l : List (Fin 16)) (s : State) :
    s.skipDrafts r p (c :: l) = s.memberDraft .disabled r c p :: s.skipDrafts r (p + 1) l := by
  simp [State.skipDrafts, List.mapIdx_cons, Nat.add_comm, Nat.add_left_comm]

@[simp] theorem State.skipDrafts_isEmpty (r : Request) (p : Nat) (l : List (Fin 16)) (s : State) :
    (s.skipDrafts r p l).isEmpty = l.isEmpty := by
  cases l <;> simp [State.skipDrafts]

/-- All that a skip of members does: its entries, and the position of the last member skipped. -/
theorem State.skipMembers_eq (r : Request) (p : Nat) (l : List (Fin 16)) (s : State) :
    s.skipMembers r p l =
      { s.abortEntries (s.skipDrafts r p l) with
        seq := { s.seq with position := if l.isEmpty then s.seq.position else p + (l.length - 1) } } := by
  induction l generalizing p s with
  | nil => simp [State.skipMembers, State.skipDrafts]
  | cons c rest ih =>
    rw [State.skipMembers, ih, State.skipDrafts_cons, State.abortEntries_cons]
    simp only [State.produceAborted_eq, State.abortEntries, State.skipDrafts, State.memberDraft, List.isEmpty_cons,
      List.length_cons, Bool.false_eq_true, if_false, State.mk.injEq, Sequencer.mk.injEq, true_and, and_true]
    cases rest with
    | nil => simp
    | cons e rest => simp; omega

/-! ### A member's turn -/

/-- The turn passes the members `skipped`, all disabled, and starts the enabled one after them. -/
theorem State.takeTurn_starts {p : Nat} {r : Request} {skipped rest : List (Fin 16)} {c : Fin 16} {s : State}
    (hcurrent : s.seq.current = some r) (hlist : s.seq.members.drop p = skipped ++ c :: rest)
    (hskipped : ∀ e ∈ skipped, (s.channels[e]).enabled = false) (hc : (s.channels[c]).enabled = true) :
    s.takeTurn p = ((s.skipMembers r p skipped).startMember c (p + skipped.length), true) := by
  have hwhile : (skipped ++ c :: rest).takeWhile (fun e => !(s.channels[e]).enabled) = skipped := by
    rw [List.takeWhile_append_of_pos (by simpa using hskipped), List.takeWhile_cons_of_neg (by simpa using hc)]
    simp
  simp only [State.takeTurn, hcurrent, hlist, hwhile, List.drop_left]

/-- The turn passes the members left, all disabled, and starts none. -/
theorem State.takeTurn_ends {p : Nat} {r : Request} {s : State} (hcurrent : s.seq.current = some r)
    (hskipped : ∀ e ∈ s.seq.members.drop p, (s.channels[e]).enabled = false) :
    s.takeTurn p = (s.skipMembers r p (s.seq.members.drop p), false) := by
  have hwhile : (s.seq.members.drop p).takeWhile (fun e => !(s.channels[e]).enabled) = s.seq.members.drop p :=
    List.takeWhile_eq_self_iff.mpr (by simpa using hskipped)
  simp only [State.takeTurn, hcurrent, hwhile, List.drop_length]

/-- A list is disabled throughout, or has a first channel that is enabled. -/
theorem State.allDisabled_or_firstEnabled (s : State) (l : List (Fin 16)) :
    (∀ e ∈ l, (s.channels[e]).enabled = false) ∨
      ∃ skipped c rest, l = skipped ++ c :: rest ∧ (∀ e ∈ skipped, (s.channels[e]).enabled = false)
        ∧ (s.channels[c]).enabled = true := by
  induction l with
  | nil => exact .inl (by simp)
  | cons e l ih =>
    cases he : (s.channels[e]).enabled with
    | true => exact .inr ⟨[], e, l, rfl, by simp, he⟩
    | false =>
      obtain h | ⟨skipped, c, rest, rfl, hs, hc⟩ := ih
      · exact .inl (by simpa using ⟨he, h⟩)
      · exact .inr ⟨e :: skipped, c, rest, rfl, by simpa using ⟨he, hs⟩, hc⟩

theorem State.goOn_starts {p : Nat} {r : Request} {skipped rest : List (Fin 16)} {c : Fin 16} {s : State}
    (hcurrent : s.seq.current = some r) (hlist : s.seq.members.drop p = skipped ++ c :: rest)
    (hskipped : ∀ e ∈ skipped, (s.channels[e]).enabled = false) (hc : (s.channels[c]).enabled = true) :
    s.goOn p = (s.skipMembers r p skipped).startMember c (p + skipped.length) := by
  simp only [State.goOn, State.takeTurn_starts hcurrent hlist hskipped hc]

theorem State.goOn_ends {p : Nat} {r : Request} {s : State} (hcurrent : s.seq.current = some r)
    (hskipped : ∀ e ∈ s.seq.members.drop p, (s.channels[e]).enabled = false) :
    s.goOn p = ((s.skipMembers r p (s.seq.members.drop p)).endRequest .idle).arbitrate := by
  simp only [State.goOn, State.takeTurn_ends hcurrent hskipped]

/-- The flags of the end of request `r` after these ABORTED entries, the scheduler being at `k` (R75, R78, R80, R147). -/
def Ring.endFlags (ds : List Draft) (r : Request) (k : Scheduler) (q : Ring) : Flag → Bool
  | .aborted => !ds.isEmpty
  | .ringLoss => q.loses ds
  | .immDone => r.isImmediate
  | .runChange => decide (k = .pausing)
  | _ => false

/-- The end of a request whose members left are all disabled, written out. -/
theorem State.goOn_ends_eq {p : Nat} {r : Request} {l : List (Fin 16)} {s : State} (hcurrent : s.seq.current = some r)
    (hlist : s.seq.members.drop p = l) (hskipped : ∀ e ∈ l, (s.channels[e]).enabled = false) :
    s.goOn p =
      ({ s with
        seq := { s.seq.ended .idle with position := if l.isEmpty then s.seq.position else p + (l.length - 1) }
        ring := s.ring.handAll (s.skipDrafts r p l)
        scheduler := s.scheduler.afterEnd true
        alerts := s.alerts.also (s.ring.endFlags (s.skipDrafts r p l) r s.scheduler) } : State).arbitrate := by
  subst hlist
  rw [State.goOn_ends hcurrent hskipped, State.skipMembers_eq, State.endRequest_eq]
  simp only [State.abortEntries, Alerts.also_also, Sequencer.holdsImmediate, hcurrent, Option.any_some]
  rw [Alerts.also_congr (g := s.ring.endFlags (s.skipDrafts r p (s.seq.members.drop p)) r s.scheduler)]
  · rfl
  · intro f
    cases f with
    | runChange => simp [Ring.endFlags, Ring.abortFlags]; rfl
    | ringLoss | immDone | cadOverrun | trgOverrun | calDone | calFail | refFault | aborted | cmdError =>
      simp [Ring.endFlags, Ring.abortFlags]

/-! ### Answers -/

@[simp] theorem State.accept_state (s : State) : s.accept.state = s := rfl
@[simp] theorem State.refuse_state (r : ResultCode) (s : State) : (s.refuse r).state = s := rfl
@[simp] theorem State.refuseWith_state (r : ResultCode) (d : DetailCode) (s : State) :
    (s.refuseWith r d).state = s := rfl

/-! ### Arbitration -/

theorem State.arbitrate_of_not_free {s : State} (h : s.free = false) : s.arbitrate = s := by
  simp [State.arbitrate, State.arbitrateFor, h]

theorem State.arbitrate_of_search_none {s : State} (h : s.search = none) : s.arbitrate = s := by
  simp [State.arbitrate, State.arbitrateFor, h]

/-- What is taken is the head of one of the four queues, and the other three stay. -/
theorem Queues.take_cases {c : ServiceClass} {r : Request} {q q' : Queues} (h : q.take c = some (r, q')) :
    (∃ a l, q.immediate = a :: l ∧ r = .immediate a ∧ q' = { q with immediate := l })
      ∨ (∃ a l, q.triggered = a :: l ∧ r = .triggered a ∧ q' = { q with triggered := l })
      ∨ (∃ a l, q.cadence = a :: l ∧ r = .cadence a ∧ q' = { q with cadence := l })
      ∨ (∃ a l, q.maintenance = a :: l ∧ r = .maintenance a ∧ q' = { q with maintenance := l }) := by
  obtain ⟨i, t, cad, m⟩ := q
  cases c with
  | immediate => cases i with | nil => cases h | cons a l => cases h; exact .inl ⟨a, l, rfl, rfl, rfl⟩
  | triggered => cases t with | nil => cases h | cons a l => cases h; exact .inr (.inl ⟨a, l, rfl, rfl, rfl⟩)
  | cadence => cases cad with | nil => cases h | cons a l => cases h; exact .inr (.inr (.inl ⟨a, l, rfl, rfl, rfl⟩))
  | maintenance => cases m with | nil => cases h | cons a l => cases h; exact .inr (.inr (.inr ⟨a, l, rfl, rfl, rfl⟩))

/-- A grant takes one pending request. -/
theorem Queues.total_of_take {c : ServiceClass} {r : Request} {q q' : Queues} (h : q.take c = some (r, q')) :
    q.total = q'.total + 1 := by
  obtain ⟨a, l, hq, -, rfl⟩ | ⟨a, l, hq, -, rfl⟩ | ⟨a, l, hq, -, rfl⟩ | ⟨a, l, hq, -, rfl⟩ := Queues.take_cases h <;>
    simp only [Queues.total, hq, List.length_cons] <;> omega

/-- The search ends at a class with a request waiting. -/
theorem State.waiting_of_search {slot : Nat} {c : ServiceClass} {s : State} (h : s.search = some (slot, c)) :
    s.queues.waiting c = true := by
  unfold State.search at h
  obtain ⟨k, -, hk⟩ := List.exists_of_findSome?_eq_some h
  dsimp only at hk
  split at hk
  · split at hk
    · cases hk; assumption
    · cases hk
  · cases hk

/-- The search passes every slot in use: where it finds none, no class of the active phases waits. -/
theorem State.search_reaches {s : State} (hpointer : s.arbiter.pointer < s.arbiter.activeBank.length)
    (hsearch : s.search = none) {c : ServiceClass} (hc : s.active c = true) : s.queues.waiting c = false := by
  simp only [State.active, PhaseBank.appears, List.contains_iff_mem, List.mem_take_iff_getElem] at hc
  obtain ⟨i, hi, hslot⟩ := hc
  simp only [Vector.length_toList, lt_min_iff] at hi
  have hmod : (s.arbiter.pointer + (i + s.arbiter.activeBank.length - s.arbiter.pointer) % s.arbiter.activeBank.length)
      % s.arbiter.activeBank.length = i := by
    rw [Nat.add_mod_mod, Nat.add_sub_cancel' (by omega), Nat.add_mod_right, Nat.mod_eq_of_lt (by omega)]
  have hpass := (List.findSome?_eq_none_iff.mp hsearch)
    ((i + s.arbiter.activeBank.length - s.arbiter.pointer) % s.arbiter.activeBank.length)
    (List.mem_range.mpr (Nat.mod_lt _ (by omega)))
  have hat : s.arbiter.activeBank.slots[i]? = some (.serve c) := by
    rw [Vector.getElem?_eq_getElem (by omega)]
    simpa using hslot
  simp only [hmod, hat] at hpass
  simpa using hpass

/-- Queues with no class waiting are empty. -/
theorem Queues.eq_none_of_not_waiting {q : Queues} (h : ∀ c, q.waiting c = false) : q = .none := by
  obtain ⟨i, t, c, m⟩ := q
  have hi := h .immediate
  have ht := h .triggered
  have hc := h .cadence
  have hm := h .maintenance
  simp_all [Queues.waiting, Queues.none]

/-- A queue with a request waiting has a head to take. -/
theorem Queues.take_of_waiting {c : ServiceClass} {q : Queues} (h : q.waiting c = true) :
    ∃ r q', q.take c = some (r, q') := by
  obtain ⟨i, t, cad, m⟩ := q
  cases c with
  | immediate => cases i with | nil => cases h | cons a l => exact ⟨_, _, rfl⟩
  | triggered => cases t with | nil => cases h | cons a l => exact ⟨_, _, rfl⟩
  | cadence => cases cad with | nil => cases h | cons a l => exact ⟨_, _, rfl⟩
  | maintenance => cases m with | nil => cases h | cons a l => exact ⟨_, _, rfl⟩

/-- A granted calibration enters CALIBRATING. -/
theorem State.arbitrate_calibrates {slot : Nat} {c : ServiceClass} {m : Merged CalTarget} {q : Queues} {s : State}
    (hfree : s.free = true) (hsearch : s.search = some (slot, c)) (htake : s.queues.take c = some (.maintenance m, q)) :
    s.arbitrate = { s.grant slot (.maintenance m) q with
      seq := { (s.grant slot (.maintenance m) q).seq with converter := .calibrating } } := by
  simp only [State.arbitrate, State.arbitrateFor, hfree, hsearch, htake, if_true]

/-- Any other granted request takes its first member's turn. -/
theorem State.arbitrate_serves {slot : Nat} {c : ServiceClass} {r : Request} {q : Queues} {s : State}
    (hfree : s.free = true) (hsearch : s.search = some (slot, c)) (htake : s.queues.take c = some (r, q))
    (hr : r.isCalibration = false) : s.arbitrate = (s.grant slot r q).goOn 0 := by
  have hcurrent : (s.grant slot r q).seq.current = some r := rfl
  have hgrant (u : State) (b : Bool) (hturn : (s.grant slot r q).takeTurn 0 = (u, b)) :
      s.arbitrate = if b then u else State.arbitrateFor s.queues.total (u.endRequest .idle) := by
    cases r with
    | maintenance m => cases hr
    | immediate _ | triggered _ | cadence _ =>
      cases b <;> simp [State.arbitrate, State.arbitrateFor, hfree, hsearch, htake, hturn]
  obtain hoff | ⟨skipped, c, rest, hlist, hskipped, hc⟩ :=
    (s.grant slot r q).allDisabled_or_firstEnabled ((s.grant slot r q).seq.members.drop 0)
  · rw [hgrant _ _ (State.takeTurn_ends hcurrent hoff), State.goOn_ends hcurrent hoff, Queues.total_of_take htake]
    simp [State.arbitrate, State.endRequest_eq, State.skipMembers_eq, State.abortEntries]
  · rw [hgrant _ _ (State.takeTurn_starts hcurrent hlist hskipped hc), if_pos rfl,
      State.goOn_starts hcurrent hlist hskipped hc]

/-- A turn, the end of the request it may be, and grants in a row move the pointer and change no bank. -/
theorem State.goOn_activeBank_of_arbitrate {s : State} {r : Request} (hr : s.seq.current = some r) (p : Nat)
    (harbitrate : ∀ t : State, t.queues.total = s.queues.total →
      t.arbitrate.arbiter.activeBank = t.arbiter.activeBank) :
    (s.goOn p).arbiter.activeBank = s.arbiter.activeBank := by
  obtain hoff | ⟨skipped, c, rest, hlist, hskipped, hc⟩ := s.allDisabled_or_firstEnabled (s.seq.members.drop p)
  · rw [State.goOn_ends hr hoff, harbitrate] <;>
      simp [State.endRequest_eq, State.skipMembers_eq, State.abortEntries]
  · rw [State.goOn_starts hr hlist hskipped hc]
    simp [State.skipMembers_eq, State.abortEntries]

/-- Arbitration leaves the active bank as it is. -/
@[simp] theorem State.arbitrate_activeBank (s : State) : s.arbitrate.arbiter.activeBank = s.arbiter.activeBank := by
  induction hn : s.queues.total using Nat.strong_induction_on generalizing s with
  | h n ih =>
    cases hfree : s.free with
    | false => rw [State.arbitrate_of_not_free hfree]
    | true =>
      cases hsearch : s.search with
      | none => rw [State.arbitrate_of_search_none hsearch]
      | some found =>
        obtain ⟨slot, c⟩ := found
        obtain ⟨r, q, htake⟩ := Queues.take_of_waiting (State.waiting_of_search hsearch)
        cases hr : r.isCalibration with
        | true =>
          cases r with
          | maintenance m => rw [State.arbitrate_calibrates hfree hsearch htake]; rfl
          | immediate _ | triggered _ | cadence _ => cases hr
        | false =>
          rw [State.arbitrate_serves hfree hsearch htake hr]
          refine State.goOn_activeBank_of_arbitrate rfl 0 fun t ht => ih t.queues.total ?_ t rfl
          rw [ht, ← hn, Queues.total_of_take htake]
          exact Nat.lt_succ_self _

/-- A MAINTENANCE demand leaves the active phases as they are. -/
@[simp] theorem State.postMaintenance_active (m : CalTarget) (c : ServiceClass) (s : State) :
    (s.postMaintenance m).active c = s.active c := by
  unfold State.postMaintenance
  split
  · rfl
  · simp [State.active]

end Sys2Proof.Machine
end

section
/-! SUPPORT. The invariant of the schedule in two parts: what stays true inside an operation too (`Grounded`), and what the
converter state says of the sequencer (`Coherent`); and what the shared operations keep of them. -/

namespace Sys2Proof.Machine

/-! ### The parts of the invariant -/

/-- A request for group `g` is pending in the IMMEDIATE or TRIGGERED queue (R14). -/
def Queues.names (g : Fin 4) (q : Queues) : Bool :=
  q.immediate.any (fun r => decide (r.target = .group g)) || pendingFor g q.triggered

/-- At most 8 IMMEDIATE requests, and at most one request for a target in each other queue (R19, R20). -/
structure Queues.Valid (q : Queues) : Prop where
  immediate : q.immediate.length ≤ Config.immediateCapacity
  triggered : (q.triggered.map (·.target)).Nodup
  cadence : (q.cadence.map (·.target)).Nodup
  maintenance : (q.maintenance.map (·.target)).Nodup

/-- The invariant of the schedule but for the two parts that an operation gives up until it has come to its end: what the
converter state says of the sequencer, and that no request waits while the converter is IDLE. -/
structure State.Grounded (s : State) : Prop where
  tables : s.TablesValid
  banks : s.BanksValid
  queues : s.queues.Valid
  waiting : ∀ c, s.queues.waiting c = true → s.active c = true
  bound : ∀ g, s.triggerBound g = true → s.groups[g] ≠ []
  queued : ∀ g, s.queues.names g = true → s.groups[g] ≠ []
  current : ∀ g, s.seq.current.bind Request.group? = some g → s.groups[g] ≠ []
  captured : s.seq.Captured
  scheduler : s.SchedulerSound
  halt : s.HaltSound

/-- All of the invariant but that no request waits while the converter is IDLE, which arbitration brings about. -/
structure State.Coherent (s : State) : Prop extends s.Grounded where
  sound : s.seq.Sound

/-- A group is named by a binding, by a request waiting, or by the current request. -/
theorem State.namedGroupsDefined_iff (s : State) :
    s.NamedGroupsDefined ↔ (∀ g, s.triggerBound g = true → s.groups[g] ≠ [])
      ∧ (∀ g, s.queues.names g = true → s.groups[g] ≠ [])
      ∧ ∀ g, s.seq.current.bind Request.group? = some g → s.groups[g] ≠ [] := by
  simp only [State.NamedGroupsDefined, State.requestHeld, Queues.names, Bool.or_eq_true, decide_eq_true_eq, or_imp,
    forall_and]

theorem State.scheduleSound_iff (s : State) : s.ScheduleSound ↔ s.Coherent ∧ s.NoneWaitsIdle := by
  constructor
  · rintro ⟨tables, banks, ⟨hi, ht, hc, hm⟩, ⟨wi, wt, wc, wm⟩, named, sound, captured, scheduler, halt, none⟩
    obtain ⟨bound, queued, current⟩ := s.namedGroupsDefined_iff.mp named
    have waiting (c : ServiceClass) (h : s.queues.waiting c = true) : s.active c = true := by
      cases c with
      | immediate => exact wi h
      | triggered => exact wt h
      | cadence => exact wc h
      | maintenance => exact wm h
    exact ⟨⟨⟨tables, banks, ⟨hi, ht, hc, hm⟩, waiting, bound, queued, current, captured, scheduler, halt⟩, sound⟩, none⟩
  · rintro ⟨h, none⟩
    exact ⟨h.tables, h.banks, ⟨h.queues.immediate, h.queues.triggered, h.queues.cadence, h.queues.maintenance⟩,
      ⟨h.waiting _, h.waiting _, h.waiting _, h.waiting _⟩,
      s.namedGroupsDefined_iff.mpr ⟨h.bound, h.queued, h.current⟩, h.sound, h.captured, h.scheduler, h.halt, none⟩

theorem State.ScheduleSound.coherent {s : State} (h : s.ScheduleSound) : s.Coherent := (s.scheduleSound_iff.mp h).1

theorem State.ScheduleSound.noneWaits {s : State} (h : s.ScheduleSound) : s.NoneWaitsIdle := (s.scheduleSound_iff.mp h).2

theorem State.Coherent.scheduleSound {s : State} (h : s.Coherent) (k : s.NoneWaitsIdle) : s.ScheduleSound :=
  s.scheduleSound_iff.mpr ⟨h, k⟩

/-! ### What the parts say together -/

section
variable {s : State}

/-- A scheduler that holds a request accepts postings. -/
theorem State.Grounded.accepts (h : s.Grounded) (hr : s.seq.current.isSome) : s.scheduler.accepts = true := by
  by_contra hn
  have := (h.scheduler.1 (by simpa using hn)).2
  simp [this] at hr

/-- While a request is current the converter is not HALTED, no halt is pending, and the reference condition is absent. -/
theorem State.Grounded.unhalted (h : s.Grounded) (hr : s.seq.current.isSome) :
    s.seq.converter ≠ .halted ∧ s.seq.haltPending = false ∧ s.refCondition = false := by
  have hnot : ¬ (s.seq.converter = .halted ∨ s.seq.haltPending = true) := fun hh => by
    simp [(h.halt.1 hh).2] at hr
  refine ⟨fun hk => hnot (.inl hk), by simpa using fun hp => hnot (.inr hp), by simpa using fun hc => hnot (h.halt.2 hc)⟩

/-- A converter that is not IDLE leaves requests to wait. -/
theorem State.noneWaitsIdle_of_not_idle (h : s.seq.converter ≠ .idle) : s.NoneWaitsIdle := fun _ hi => absurd hi h

/-- A scheduler that is not RUNNING leaves requests to wait. -/
theorem State.noneWaitsIdle_of_not_running (h : s.scheduler ≠ .running) : s.NoneWaitsIdle := fun hr => absurd hr h

/-! ### Changes beside the schedule -/

/-- Flags set, REF_FAULT among them or not, keep it. -/
theorem State.Grounded.also (h : s.Grounded) (f : Flag → Bool) :
    ({ s with alerts := s.alerts.also f } : State).Grounded :=
  { h with
    halt := ⟨fun hh => ⟨by simp [Alerts.also, Latched.also, (h.halt.1 hh).1], (h.halt.1 hh).2⟩, h.halt.2⟩ }

theorem State.Coherent.also (h : s.Coherent) (f : Flag → Bool) :
    ({ s with alerts := s.alerts.also f } : State).Coherent :=
  { h.toGrounded.also f with sound := h.sound }

theorem State.ScheduleSound.also (h : s.ScheduleSound) (f : Flag → Bool) :
    ({ s with alerts := s.alerts.also f } : State).ScheduleSound :=
  (h.coherent.also f).scheduleSound h.noneWaits

/-- ABORTED entries keep it. -/
theorem State.Grounded.abortEntries (h : s.Grounded) (ds : List Draft) : (s.abortEntries ds).Grounded :=
  { h.also _ with }

/-- ABORTED entries, and another position of the current request, keep it. -/
theorem State.Grounded.skipMembers (h : s.Grounded) (r : Request) (p : Nat) (l : List (Fin 16)) :
    (s.skipMembers r p l).Grounded := by
  rw [State.skipMembers_eq]
  exact { h.also _ with }

/-! ### Members and the end of a request -/

/-- The start of a member of the current request. -/
theorem State.Grounded.startMember (h : s.Grounded) (c : Fin 16) {p : Nat} (hp : p < s.seq.members.length)
    (hr : s.seq.current.isSome) : (s.startMember c p).Coherent := by
  obtain ⟨-, hpending, hcondition⟩ := h.unhalted hr
  have haccepts := h.accepts hr
  exact
    { h with
      scheduler := ⟨h.scheduler.1, h.scheduler.2.1, fun hs => by
        rw [show s.scheduler = .starting from hs] at haccepts; cases haccepts⟩
      halt := ⟨fun hh => by simp [Sequencer.settlingOn, hpending] at hh, fun hh => by simp [hcondition] at hh⟩
      sound := ⟨by simp [Sequencer.settlingOn], fun _ => ⟨hp, rfl⟩, by simp [Sequencer.settlingOn],
        by simp [Sequencer.settlingOn], fun _ => .inl rfl, fun hh => by simp [Sequencer.settlingOn, hpending] at hh⟩ }

/-- The end of the current request, at any of the converter states that can follow it, with the reference condition as it
then is. -/
theorem State.Grounded.ended (h : s.Grounded) (hr : s.seq.current.isSome) {k : Converter} {pending condition : Bool}
    (f : Flag → Bool) (hk : k = .idle ∨ k = .recovering ∨ k = .halted) (hpending : pending = true → k = .recovering)
    (hflag : k = .halted ∨ pending = true → f .refFault = true)
    (hcondition : condition = true → k = .halted ∨ pending = true) :
    ({ s with
      seq := { s.seq.ended k with haltPending := pending }
      scheduler := s.scheduler.afterEnd true
      refCondition := condition
      alerts := s.alerts.also f } : State).Coherent := by
  have haccepts := h.accepts hr
  have hafter : (s.scheduler.afterEnd true).accepts = true ∧ s.scheduler.afterEnd true ≠ .pausing := by
    cases hs : s.scheduler <;> simp_all [Scheduler.afterEnd, Scheduler.accepts]
  exact
    { h with
      current := by simp [Sequencer.ended]
      captured := by simp [Sequencer.Captured, Sequencer.ended]
      scheduler := ⟨fun hn => by simp [hafter.1] at hn, fun hs => absurd hs hafter.2, fun hs => by
        simp [show s.scheduler.afterEnd true = .starting from hs, Scheduler.accepts] at hafter⟩
      halt := ⟨fun hh => ⟨by simp [Alerts.also, Latched.also, hflag hh], rfl⟩, hcondition⟩
      sound := by
        refine ⟨fun _ => rfl, ?_, ?_, by simp [Sequencer.ended], by simp [Sequencer.ended], hpending⟩ <;>
          obtain rfl | rfl | rfl := hk <;> simp [Sequencer.ended] }

/-- The end of a request that leaves the converter IDLE or RECOVERING. -/
theorem State.Grounded.endRequest (h : s.Grounded) (hr : s.seq.current.isSome) {k : Converter}
    (hk : k = .idle ∨ k = .recovering) : (s.endRequest k).Coherent := by
  obtain ⟨-, hpending, hcondition⟩ := h.unhalted hr
  have hended := h.ended hr (k := k) (pending := s.seq.haltPending) (condition := s.refCondition)
    (fun g => s.seq.holdsImmediate && decide (g = .immDone) || decide (s.scheduler = .pausing) && decide (g = .runChange))
    (by tauto) (by simp [hpending]) (by obtain rfl | rfl := hk <;> simp [hpending]) (by simp [hcondition])
  rw [State.endRequest_eq]
  exact hended

/-! ### Arbitration -/

/-- With every class that waits among the active phases, a search that finds none leaves none waiting. -/
theorem State.Grounded.none_of_search (h : s.Grounded) (hsearch : s.search = none) : s.queues = .none :=
  Queues.eq_none_of_not_waiting fun c => by
    by_contra hw
    exact hw (State.search_reaches h.banks.2.2 hsearch (h.waiting c (by simpa using hw)))

/-- What is left of the queues after the head of one is taken. -/
theorem Queues.Valid.take {q q' : Queues} {c : ServiceClass} {r : Request} (h : q.Valid) (ht : q.take c = some (r, q')) :
    q'.Valid := by
  obtain ⟨a, l, hq, -, rfl⟩ | ⟨a, l, hq, -, rfl⟩ | ⟨a, l, hq, -, rfl⟩ | ⟨a, l, hq, -, rfl⟩ := Queues.take_cases ht
  · exact { h with immediate := by have := h.immediate; rw [hq, List.length_cons] at this; exact Nat.le_of_succ_le this }
  · exact { h with triggered := by have := h.triggered; rw [hq] at this; exact (List.nodup_cons.mp this).2 }
  · exact { h with cadence := by have := h.cadence; rw [hq] at this; exact (List.nodup_cons.mp this).2 }
  · exact { h with maintenance := by have := h.maintenance; rw [hq] at this; exact (List.nodup_cons.mp this).2 }

/-- A class that waits after a take waited before. -/
theorem Queues.waiting_of_take {q q' : Queues} {c e : ServiceClass} {r : Request} (ht : q.take c = some (r, q'))
    (hw : q'.waiting e = true) : q.waiting e = true := by
  obtain ⟨a, l, hq, -, rfl⟩ | ⟨a, l, hq, -, rfl⟩ | ⟨a, l, hq, -, rfl⟩ | ⟨a, l, hq, -, rfl⟩ := Queues.take_cases ht <;>
    cases e <;> simp_all [Queues.waiting]

/-- The groups named before a take are those named after it and the one that the request taken names. -/
theorem Queues.names_of_take {q q' : Queues} {c : ServiceClass} {r : Request} {g : Fin 4}
    (ht : q.take c = some (r, q')) : q.names g = (decide (r.group? = some g) || q'.names g) := by
  obtain ⟨⟨target, tag⟩, l, hq, rfl, rfl⟩ | ⟨a, l, hq, rfl, rfl⟩ | ⟨a, l, hq, rfl, rfl⟩ | ⟨a, l, hq, rfl, rfl⟩ :=
    Queues.take_cases ht
  · cases target <;> simp [Queues.names, hq, Request.group?, Bool.or_assoc]
  · simp [Queues.names, hq, Request.group?, pendingFor, Bool.or_left_comm]
  · simp [Queues.names, Request.group?]
  · simp [Queues.names, Request.group?]

/-- A grant: the request taken is the current one, with its group's list captured. -/
theorem State.Coherent.grant (h : s.Coherent) (hfree : s.free = true) {slot : Nat} {c : ServiceClass} {r : Request}
    {q : Queues} (ht : s.queues.take c = some (r, q)) : (s.grant slot r q).Grounded := by
  obtain ⟨hrunning, hidle, -⟩ := s.free_iff.mp hfree
  have hpending : s.seq.haltPending = false := by
    by_contra hp
    have := h.sound.2.2.2.2.2 (by simpa using hp)
    simp [hidle] at this
  have hnamed (g : Fin 4) (hg : r.group? = some g) : s.groups[g] ≠ [] :=
    h.queued g (by simp [Queues.names_of_take ht, hg])
  exact
    { h.toGrounded with
      banks := ⟨h.banks.1, h.banks.2.1, Nat.mod_lt _ (Nat.zero_lt_of_lt h.banks.2.2)⟩
      queues := h.queues.take ht
      waiting := fun e he => h.waiting e (Queues.waiting_of_take ht he)
      queued := fun g hg => h.queued g (by rw [Queues.names_of_take ht]; simpa using .inr hg)
      current := hnamed
      captured := by
        refine ⟨by simp, fun l hl => ?_⟩
        obtain ⟨g, hg, rfl⟩ := Option.map_eq_some_iff.mp hl
        exact ⟨hnamed g hg, (h.tables.2 g).1⟩
      scheduler := ⟨fun hn => by simp [show s.scheduler = .running from hrunning, Scheduler.accepts] at hn,
        fun _ => rfl, fun hs => by simp [hrunning] at hs⟩
      halt := ⟨fun hh => by simp [hidle, hpending] at hh, fun hh => by
        have := h.halt.2 hh; simp [hidle, hpending] at this⟩ }

/-- The calibration granted enters CALIBRATING. -/
theorem State.Grounded.calibrate (h : s.Grounded) {m : Merged CalTarget} (hr : s.seq.current = some (.maintenance m))
    (hsnapshot : s.seq.snapshot = none) :
    ({ s with seq := { s.seq with converter := .calibrating } } : State).Coherent := by
  have hsome : s.seq.current.isSome := by simp [hr]
  obtain ⟨-, hpending, hcondition⟩ := h.unhalted hsome
  have haccepts := h.accepts hsome
  exact
    { h with
      scheduler := ⟨h.scheduler.1, h.scheduler.2.1, fun hs => by
        rw [show s.scheduler = .starting from hs] at haccepts; cases haccepts⟩
      halt := ⟨fun hh => by simp [hpending] at hh, fun hh => by simp [hcondition] at hh⟩
      sound := ⟨by simp, by simp, fun _ => by simp [hr, Request.isCalibration], by simp, by simp [hsnapshot],
        by simp [hpending]⟩ }

/-- The turn of a member of the current request, or the request's end, keeps the invariant where arbitration over no more
requests keeps it. -/
theorem State.Grounded.goOn_of_arbitrate (h : s.Grounded) {r : Request} (hr : s.seq.current = some r) (p : Nat)
    (harbitrate : ∀ t : State, t.queues.total = s.queues.total → t.Coherent → t.arbitrate.ScheduleSound) :
    (s.goOn p).ScheduleSound := by
  have hsome : s.seq.current.isSome := by simp [hr]
  obtain hoff | ⟨skipped, c, rest, hlist, hskipped, hc⟩ := s.allDisabled_or_firstEnabled (s.seq.members.drop p)
  · rw [State.goOn_ends hr hoff]
    refine harbitrate _ ?_ ((h.skipMembers r p _).endRequest ?_ (.inl rfl))
    · simp [State.endRequest_eq, State.skipMembers_eq, State.abortEntries]
    · simpa [State.skipMembers_eq] using hsome
  · rw [State.goOn_starts hr hlist hskipped hc]
    have hposition : p + skipped.length < s.seq.members.length := by
      have := congrArg List.length hlist
      simp only [List.length_drop, List.length_append, List.length_cons] at this
      omega
    have hskip := h.skipMembers r p skipped
    rw [State.skipMembers_eq] at hskip ⊢
    exact (hskip.startMember c hposition hsome).scheduleSound (State.noneWaitsIdle_of_not_idle (by simp [Sequencer.settlingOn]))

/-- Arbitration brings about the whole invariant: it ends with no request waiting, or with one at work. -/
theorem State.Coherent.arbitrate (h : s.Coherent) : s.arbitrate.ScheduleSound := by
  induction hn : s.queues.total using Nat.strong_induction_on generalizing s with
  | h n ih =>
    cases hfree : s.free with
    | false =>
      rw [State.arbitrate_of_not_free hfree]
      refine h.scheduleSound fun hrunning hidle => ?_
      have := s.free_iff.mpr ⟨hrunning, hidle, h.sound.1 (.inl hidle)⟩
      simp [hfree] at this
    | true =>
      cases hsearch : s.search with
      | none =>
        rw [State.arbitrate_of_search_none hsearch]
        exact h.scheduleSound fun _ _ => h.none_of_search hsearch
      | some found =>
        obtain ⟨slot, c⟩ := found
        obtain ⟨r, q, htake⟩ := Queues.take_of_waiting (State.waiting_of_search hsearch)
        have hgrant : (s.grant slot r q).Grounded := h.grant hfree htake
        cases hr : r.isCalibration with
        | true =>
          cases r with
          | maintenance m =>
            rw [State.arbitrate_calibrates hfree hsearch htake]
            exact (hgrant.calibrate rfl rfl).scheduleSound (State.noneWaitsIdle_of_not_idle (by simp))
          | immediate _ | triggered _ | cadence _ => cases hr
        | false =>
          rw [State.arbitrate_serves hfree hsearch htake hr]
          refine hgrant.goOn_of_arbitrate rfl 0 fun t ht hcoherent => ih t.queues.total ?_ hcoherent rfl
          rw [ht, ← hn, Queues.total_of_take htake]
          exact Nat.lt_succ_self _

/-- The turn of a member of the current request, or the request's end. -/
theorem State.Grounded.goOn (h : s.Grounded) (hr : s.seq.current.isSome) (p : Nat) : (s.goOn p).ScheduleSound := by
  obtain ⟨r, hr⟩ := Option.isSome_iff_exists.mp hr
  exact h.goOn_of_arbitrate hr p fun _ _ ht => ht.arbitrate

end
end Sys2Proof.Machine
end

section
/-! SUPPORT. What the demands, the withdrawals and the abort of the work in progress keep of the invariant of the
schedule. -/

namespace Sys2Proof.Machine

section
variable {s : State}

/-! ### Queues that lose or gain requests -/

/-- Queues that lose requests, or merge repeats. -/
theorem State.ScheduleSound.requeue (h : s.ScheduleSound) {q : Queues} (hvalid : q.Valid)
    (hwaiting : ∀ c, q.waiting c = true → s.queues.waiting c = true)
    (hnames : ∀ g, q.names g = true → s.queues.names g = true) : ({ s with queues := q } : State).ScheduleSound := by
  have hnone (hs : s.queues = .none) : q = .none := Queues.eq_none_of_not_waiting fun c => by
    by_contra hw
    have := hwaiting c (by simpa using hw)
    rw [hs] at this
    cases c <;> cases this
  have hc := h.coherent
  exact State.Coherent.scheduleSound
    { hc with
      queues := hvalid
      waiting := fun c hw => hc.waiting c (hwaiting c hw)
      queued := fun g hg => hc.queued g (hnames g hg)
      scheduler := ⟨fun hn => ⟨hnone (hc.scheduler.1 hn).1, (hc.scheduler.1 hn).2⟩, hc.scheduler.2⟩ }
    fun hr hi => hnone (h.noneWaits hr hi)

/-- A queue that gains requests, of a class among the active phases and for groups that are defined. -/
theorem State.Coherent.enqueue (h : s.Coherent) {q : Queues} (hvalid : q.Valid) (haccepts : s.scheduler.accepts = true)
    (hwaiting : ∀ c, q.waiting c = true → s.queues.waiting c = true ∨ s.active c = true)
    (hnames : ∀ g, q.names g = true → s.queues.names g = true ∨ s.groups[g] ≠ []) :
    ({ s with queues := q } : State).Coherent :=
  { h with
    queues := hvalid
    waiting := fun c hw => (hwaiting c hw).elim (h.waiting c) id
    queued := fun g hg => (hnames g hg).elim (h.queued g) id
    scheduler := ⟨fun hn => by simp [haccepts] at hn, h.scheduler.2⟩ }

/-! ### Demands of the merging classes -/

theorem pendingFor_iff {α : Type} [DecidableEq α] (x : α) (q : List (Merged α)) :
    pendingFor x q = true ↔ x ∈ q.map (·.target) := by
  simp [pendingFor]

/-- A merged repeat leaves the targets in their places. -/
@[simp] theorem mergeInto_targets {α : Type} [DecidableEq α] (x : α) (q : List (Merged α)) :
    (mergeInto x q).map (·.target) = q.map (·.target) := by
  simp only [mergeInto, List.map_map]
  refine List.map_congr_left fun r _ => ?_
  simp only [Function.comp_apply]
  split <;> rfl

@[simp] theorem mergeInto_isEmpty {α : Type} [DecidableEq α] (x : α) (q : List (Merged α)) :
    (mergeInto x q).isEmpty = q.isEmpty := by
  simp [mergeInto]

@[simp] theorem pendingFor_mergeInto {α : Type} [DecidableEq α] (x y : α) (q : List (Merged α)) :
    pendingFor y (mergeInto x q) = pendingFor y q := by
  rw [Bool.eq_iff_iff, pendingFor_iff, pendingFor_iff, mergeInto_targets]

/-- A new request for a target that has none keeps the targets apart. -/
theorem nodup_targets_fresh {α : Type} [DecidableEq α] {x : α} {q : List (Merged α)} (hq : (q.map (·.target)).Nodup)
    (hx : pendingFor x q = false) : ((q ++ [Merged.fresh x]).map (·.target)).Nodup := by
  have hmem : x ∉ q.map (·.target) := fun hm => by simp [(pendingFor_iff x q).mpr hm] at hx
  simpa [Merged.fresh, List.nodup_append, hq] using fun r hr h => hmem (List.mem_map.mpr ⟨r, hr, h⟩)

/-- A group's new request names that group besides those named before. -/
theorem pendingFor_fresh {α : Type} [DecidableEq α] (x y : α) (q : List (Merged α)) :
    pendingFor y (q ++ [Merged.fresh x]) = (pendingFor y q || decide (x = y)) := by
  simp [pendingFor, Merged.fresh]

/-- A CADENCE demand. -/
theorem State.ScheduleSound.postCadence (h : s.ScheduleSound) (haccepts : s.scheduler.accepts = true) (c : Fin 16) :
    (s.postCadence c).ScheduleSound := by
  have hq := h.coherent.queues
  unfold State.postCadence
  split
  · rw [State.raise_eq]
    exact h.also _
  · next hactive =>
    split
    · rw [State.raise_eq]
      refine (h.requeue (q := { s.queues with cadence := mergeInto c s.queues.cadence })
        { hq with cadence := by simpa using hq.cadence } (fun e he => ?_) fun g hg => hg).also _
      cases e <;> simpa [Queues.waiting] using he
    · next hpending =>
      refine (h.coherent.enqueue (q := { s.queues with cadence := s.queues.cadence ++ [Merged.fresh c] })
        { hq with cadence := nodup_targets_fresh hq.cadence (by simpa using hpending) } haccepts
        (fun e he => ?_) fun g hg => .inl hg).arbitrate
      cases e with
      | cadence => exact .inr (by simpa using hactive)
      | immediate | triggered | maintenance => exact .inl he

/-- A TRIGGERED demand for a group that is defined. -/
theorem State.ScheduleSound.postTriggered (h : s.ScheduleSound) (haccepts : s.scheduler.accepts = true) {g : Fin 4}
    (hg : s.groups[g] ≠ []) : (s.postTriggered g).ScheduleSound := by
  have hq := h.coherent.queues
  unfold State.postTriggered
  split
  · rw [State.raise_eq]
    exact h.also _
  · next hactive =>
    split
    · rw [State.raise_eq]
      refine (h.requeue (q := { s.queues with triggered := mergeInto g s.queues.triggered })
        { hq with triggered := by simpa using hq.triggered } (fun e he => ?_) fun g' hg' => ?_).also _
      · cases e <;> simpa [Queues.waiting] using he
      · simpa [Queues.names] using hg'
    · next hpending =>
      refine (h.coherent.enqueue (q := { s.queues with triggered := s.queues.triggered ++ [Merged.fresh g] })
        { hq with triggered := nodup_targets_fresh hq.triggered (by simpa using hpending) }
        haccepts (fun e he => ?_) fun g' hg' => ?_).arbitrate
      · cases e with
        | triggered => exact .inr (by simpa using hactive)
        | immediate | cadence | maintenance => exact .inl he
      · simp only [Queues.names, pendingFor_fresh, ← Bool.or_assoc, Bool.or_eq_true (_ || _), decide_eq_true_eq] at hg'
        exact hg'.imp_right fun heq => by rwa [← heq]

/-- A MAINTENANCE demand while its class is among the active phases. -/
theorem State.ScheduleSound.postMaintenance (h : s.ScheduleSound) (haccepts : s.scheduler.accepts = true)
    (hactive : s.active .maintenance = true) (m : CalTarget) : (s.postMaintenance m).ScheduleSound := by
  have hq := h.coherent.queues
  unfold State.postMaintenance
  split
  · refine h.requeue (q := { s.queues with maintenance := mergeInto m s.queues.maintenance })
      { hq with maintenance := by simpa using hq.maintenance } (fun e he => ?_) fun g hg => hg
    cases e <;> simpa [Queues.waiting] using he
  · next hpending =>
    refine (h.coherent.enqueue (q := { s.queues with maintenance := s.queues.maintenance ++ [Merged.fresh m] })
      { hq with maintenance := nodup_targets_fresh hq.maintenance (by simpa using hpending) }
      haccepts (fun e he => ?_) fun g hg => .inl hg).arbitrate
    cases e with
    | maintenance => exact .inr hactive
    | immediate | triggered | cadence => exact .inl he

/-- An IMMEDIATE posting that passes the checks of R23. -/
theorem State.ScheduleSound.postImmediate (h : s.ScheduleSound) (haccepts : s.scheduler.accepts = true)
    (hactive : s.active .immediate = true) (hroom : s.queues.immediate.length < Config.immediateCapacity) {r : ImmRequest}
    (hdefined : ∀ g, r.target = .group g → s.groups[g] ≠ []) : (s.postImmediate r).ScheduleSound := by
  have hq := h.coherent.queues
  refine (h.coherent.enqueue (q := { s.queues with immediate := s.queues.immediate ++ [r] })
    { hq with immediate := by simpa using hroom } haccepts (fun e he => ?_) fun g hg => ?_).arbitrate
  · cases e with
    | immediate => exact .inr hactive
    | triggered | cadence | maintenance => exact .inl he
  · simp only [Queues.names, List.any_append, List.any_cons, List.any_nil, Bool.or_false, Bool.or_eq_true,
      decide_eq_true_eq] at hg ⊢
    obtain (hg | hg) | hg := hg
    · exact .inl (.inl hg)
    · exact .inr (hdefined g hg)
    · exact .inl (.inr hg)

/-! ### Expiries and triggers -/

theorem State.ScheduleSound.expire (h : s.ScheduleSound) (haccepts : s.scheduler.accepts = true) (c : Fin 16) :
    (s.expire c).ScheduleSound :=
  State.ScheduleSound.postCadence
    (s := { s with cadence := s.cadence.set c { s.cadence[c] with countdown := (s.channels[c]).period } }) h haccepts c

theorem State.ScheduleSound.takeExpiries (h : s.ScheduleSound) : s.takeExpiries.ScheduleSound := by
  unfold State.takeExpiries
  refine List.foldlRecOn channelOrder _ h fun t ht c _ => ?_
  split
  · next hdue =>
    simp only [State.expiryDue, Bool.and_eq_true] at hdue
    exact ht.expire hdue.2 c
  · exact ht

theorem State.ScheduleSound.arm (h : s.ScheduleSound) (haccepts : s.scheduler.accepts = true) (c : Fin 16) :
    (s.arm c).ScheduleSound := by
  unfold State.arm
  dsimp only
  split
  · exact State.ScheduleSound.expire
      (s := { s with cadence := s.cadence.set c { armed := true, countdown := (s.channels[c]).offset } }) h haccepts c
  · exact h

/-- A group is bound by one of the two trigger inputs. -/
theorem State.triggerBound_iff (s : State) (g : Fin 4) :
    s.triggerBound g = true ↔ ∃ i : Fin 2, (s.triggers[i]).record.edge ≠ .off ∧ (s.triggers[i]).record.group = g := by
  simp [State.triggerBound, Vector.any_eq_true, Fin.exists_iff]

/-- Trigger inputs that keep their records. -/
theorem State.ScheduleSound.retrigger (h : s.ScheduleSound) {v : Vector TriggerInput 2}
    (hrecords : ∀ i : Fin 2, (v[i]).record = (s.triggers[i]).record) :
    ({ s with triggers := v } : State).ScheduleSound := by
  have hc := h.coherent
  exact State.Coherent.scheduleSound
    { hc with
      bound := fun g hg => hc.bound g (by rw [State.triggerBound_iff] at hg ⊢; simpa only [hrecords] using hg) }
    h.noneWaits

end
end Sys2Proof.Machine
end

section
/-! SUPPORT. Requests withdrawn and work aborted: all that each does, and what it keeps of the invariant. -/

namespace Sys2Proof.Machine

section
variable {s : State}

/-! ### Withdrawn requests -/

/-- A withdrawn request: its entry, where its group has a first member, and IMM_DONE. -/
theorem State.withdraw_eq (reason : AbortReason) (r : ImmRequest) (s : State) :
    s.withdraw reason r =
      { s with
        ring := s.ring.handAll (s.withdrawnDraft reason r).toList
        alerts := s.alerts.also fun f =>
          s.ring.abortFlags (s.withdrawnDraft reason r).toList f || decide (f = .immDone) } := by
  unfold State.withdraw
  cases s.withdrawnDraft reason r with
  | none => simp [State.raise_eq]
  | some d =>
    simp only [State.raise_eq, State.produceAborted_eq, Alerts.also_also, Option.toList_some, Ring.handAll_cons,
      Ring.handAll_nil]
    rw [Alerts.also_congr]
    intro f
    simp [Ring.abortFlags_cons]

/-- Requests withdrawn in order: their entries, and IMM_DONE where there is any. -/
theorem State.foldl_withdraw (reason : AbortReason) (l : List ImmRequest) (s : State) :
    l.foldl (State.withdraw reason) s =
      { s with
        ring := s.ring.handAll (l.filterMap (s.withdrawnDraft reason))
        alerts := s.alerts.also fun f =>
          s.ring.abortFlags (l.filterMap (s.withdrawnDraft reason)) f || !l.isEmpty && decide (f = .immDone) } := by
  induction l generalizing s with
  | nil => simp
  | cons r l ih =>
    have hcons : (r :: l).filterMap (s.withdrawnDraft reason) =
        (s.withdrawnDraft reason r).toList ++ l.filterMap (s.withdrawnDraft reason) := by
      cases hr : s.withdrawnDraft reason r <;> simp [hr]
    have hlater (q : Ring) (a : Alerts) :
        ({ s with ring := q, alerts := a } : State).withdrawnDraft reason = s.withdrawnDraft reason := rfl
    rw [List.foldl_cons, ih, State.withdraw_eq, hcons]
    simp only [hlater, Alerts.also_also, Ring.handAll_append]
    rw [Alerts.also_congr]
    intro f
    rw [Ring.abortFlags_append]
    cases l <;> cases hf : decide (f = .immDone) <;> simp

/-- A flush: the queues empty, and the entries and flags of the IMMEDIATE requests withdrawn. -/
theorem State.flush_eq (s : State) :
    s.flush =
      { s with
        queues := .none
        ring := s.ring.handAll (s.queues.immediate.filterMap (s.withdrawnDraft .stop))
        alerts := s.alerts.also fun f =>
          s.ring.abortFlags (s.queues.immediate.filterMap (s.withdrawnDraft .stop)) f
            || !s.queues.immediate.isEmpty && decide (f = .immDone) } := by
  rw [State.flush, State.foldl_withdraw]
  rfl

/-! ### Work aborted -/

/-- The work in progress aborted: its entry, and the request gone. -/
theorem State.abortWork_eq (reason : AbortReason) (k : Converter) (s : State) :
    s.abortWork reason k = (s.abortEntries (s.workDraft reason).toList).dropRequest k := by
  unfold State.abortWork
  cases s.workDraft reason with
  | none => simp
  | some d => simp [State.abortEntries_cons]

/-- With a PAUSING scheduler's change, the abort is the end of the request after the entry. -/
theorem State.abortWork_endPausing (reason : AbortReason) (k : Converter) (s : State) :
    (s.abortWork reason k).endPausing = (s.abortEntries (s.workDraft reason).toList).endRequest k := by
  rw [State.abortWork_eq, State.endRequest]

end
end Sys2Proof.Machine
end

section
/-! SUPPORT. The invariant of the schedule along the rows: one lemma for each operation that touches the schedule. -/

namespace Sys2Proof.Machine

/-! ### Rows and steps in general -/

/-- Every next state of this outcome has the property. -/
def Leaves (P : State → Prop) (o : Host.Outcome State Fault Refusal) : Prop := ∀ t, o = .next t → P t

theorem leaves_next {P : State → Prop} {t : State} (h : P t) : Leaves P (.next t) := by
  rintro _ ⟨⟩; exact h

theorem leaves_occur {P : State → Prop} {s t : State} {b : Bool} (hs : P s) (ht : b = true → P t) :
    Leaves P (s.occur b t) := by
  cases b
  · exact leaves_next hs
  · exact leaves_next (ht rfl)

/-- A row with one of two effects, or none. -/
theorem leaves_either {P : State → Prop} {s t u : State} {a b : Bool} (hs : P s) (ht : P t) (hu : P u) :
    Leaves P (if a then .next t else s.occur b u) := by
  cases a
  · exact leaves_occur hs fun _ => hu
  · exact leaves_next ht

/-- A property that every row keeps, and that does not speak of the rows to come, is kept by every step. -/
theorem step_keeps {P : State → Prop} (hpending : ∀ s l, P s → P { s with pending := l })
    (hexec : ∀ i s, P s → Leaves P (exec i s)) {s t : State} (hs : P s) (h : step s = .next t) : P t := by
  unfold step at h
  split at h
  · cases h; exact hs
  · next c rest _ => exact hexec c _ (hpending s rest hs) t h

section
variable {s : State}

theorem Answer.leave_scheduleSound {a : Answer} (h : a.state.ScheduleSound) (code : Byte) :
    (a.leave code).ScheduleSound := by
  rw [Answer.leave_eq]
  exact h.also _

/-- A command that keeps the invariant out of STARTING. -/
theorem State.ScheduleSound.takeCommand (h : s.ScheduleSound) {f : State → Answer} (code : Byte)
    (hf : ∀ t : State, t.ScheduleSound → t.scheduler ≠ .starting → (f t).state.ScheduleSound) :
    (s.takeCommand code f).ScheduleSound := by
  by_cases hs : s.scheduler = .starting
  · rw [State.takeCommand_starting _ _ _ hs]
    exact h.also _
  · rw [State.takeCommand_eq _ _ _ hs]
    exact Answer.leave_scheduleSound (hf s.advance h hs) code

/-- The row of such a command. -/
theorem State.ScheduleSound.commandRow (h : s.ScheduleSound) {f : State → Answer} (b : Bool) (code : Byte)
    (hf : ∀ t : State, t.ScheduleSound → t.scheduler ≠ .starting → (f t).state.ScheduleSound) :
    Leaves State.ScheduleSound (s.occur b (s.takeCommand code f)) :=
  leaves_occur h fun _ => h.takeCommand code hf

/-- A register byte that keeps the invariant. -/
theorem State.ScheduleSound.takeRegister (h : s.ScheduleSound) {f : State → State}
    (hf : s.advance.ScheduleSound → (f s.advance).ScheduleSound) : (s.takeRegister f).ScheduleSound := by
  rw [State.takeRegister_eq]
  split
  · exact h
  · exact hf h

/-! ### What a sound sequencer says -/

/-- SETTLING, CONVERTING and CALIBRATING have a current request. -/
theorem State.Coherent.current_isSome (h : s.Coherent) (hi : s.seq.converter ≠ .idle) (hh : s.seq.converter ≠ .halted)
    (hr : s.seq.converter ≠ .recovering) : s.seq.current.isSome := by
  obtain ⟨-, hmember, hcalibration, -⟩ := h.sound
  by_contra hn
  have hnone : s.seq.current = none := by simpa using hn
  cases hk : s.seq.converter with
  | idle => exact hi hk
  | halted => exact hh hk
  | recovering => exact hr hk
  | settling | converting =>
    have := (hmember (by simp [hk])).1
    simp [Sequencer.members, hnone] at this
  | calibrating => simpa [hnone] using hcalibration hk

/-- A pending halt waits for the end of a recovery. -/
theorem State.Coherent.haltPending_false (h : s.Coherent) (hk : s.seq.converter ≠ .recovering) :
    s.seq.haltPending = false := by
  obtain ⟨-, -, -, -, -, hpending⟩ := h.sound
  by_contra hp
  exact hk (hpending (by simpa using hp))

/-- Only a member in flight has a snapshot. -/
theorem State.Coherent.snapshot_none (h : s.Coherent) (hs : s.seq.converter ≠ .settling)
    (hc : s.seq.converter ≠ .converting) : s.seq.snapshot = none := by
  obtain ⟨-, -, -, -, hsnapshot, -⟩ := h.sound
  by_contra hn
  exact (hsnapshot (Option.isSome_iff_ne_none.mpr hn)).elim hs hc

/-- A list of more than one member is a group's. -/
theorem Sequencer.group_isSome_of_members {q : Sequencer} (h : 1 < q.members.length) :
    (q.current.bind Request.group?).isSome := by
  cases hr : q.current with
  | none => simp [Sequencer.members, hr] at h
  | some r =>
    obtain ⟨⟨c⟩ | ⟨g⟩, tag⟩ | r | r | r := r <;> simp [Sequencer.members, hr, Request.channel?, Request.group?] at h ⊢

/-! ### Run control -/

/-- START leaves STOPPED with the queues empty, so that nothing waits. -/
theorem State.ScheduleSound.enterRunning (h : s.ScheduleSound) (hs : s.scheduler = .stopped) :
    ({ s with scheduler := .running } : State).ScheduleSound := by
  have hc := h.coherent
  obtain ⟨hqueues, hcurrent⟩ := hc.scheduler.1 (by simp [hs, Scheduler.accepts])
  exact State.Coherent.scheduleSound
    { hc with scheduler := ⟨fun hn => by simp [Scheduler.accepts] at hn, fun hn => by simp at hn, fun hn => by simp at hn⟩ }
    fun _ _ => hqueues

theorem State.ScheduleSound.startCommand (h : s.ScheduleSound) : s.startCommand.state.ScheduleSound := by
  unfold State.startCommand
  split
  · next hs =>
    have hrunning : (({ s with scheduler := .running } : State).armAll).ScheduleSound := h.enterRunning hs
    rw [State.accept_state]
    exact hrunning.takeExpiries.coherent.arbitrate
  · exact h

/-- PAUSING with a request, and PAUSED, leave requests to wait. -/
theorem State.Coherent.pausing (h : s.Coherent) (k : Scheduler) (hk : k.accepts = true)
    (hp : k = .pausing → s.seq.current.isSome) : ({ s with scheduler := k } : State).Coherent :=
  { h with
    scheduler := ⟨fun hn => by simp [hk] at hn, hp, fun hs => by simp [show k = .starting from hs, Scheduler.accepts] at hk⟩ }

theorem State.ScheduleSound.pauseCommand (h : s.ScheduleSound) : s.pauseCommand.state.ScheduleSound := by
  unfold State.pauseCommand
  split
  · split
    · next hr =>
      exact (h.coherent.pausing .pausing rfl fun _ => hr).scheduleSound (State.noneWaitsIdle_of_not_running (by simp))
    · rw [State.raise_eq]
      exact ((h.coherent.pausing .paused rfl (by simp)).also _).scheduleSound
        (State.noneWaitsIdle_of_not_running (by simp))
  · exact h
  all_goals exact h

theorem State.ScheduleSound.resumeCommand (h : s.ScheduleSound) : s.resumeCommand.state.ScheduleSound := by
  have hrunning := h.coherent.pausing .running rfl (by simp)
  unfold State.resumeCommand
  split
  · next hs =>
    have hr := h.coherent.scheduler.2.1 hs
    refine hrunning.scheduleSound fun _ hi => ?_
    have hnone := h.coherent.sound.1 (.inl hi)
    simp [hnone] at hr
  · exact hrunning.arbitrate
  all_goals exact h

/-- STOPPED with the queues empty and the request gone. -/
theorem State.Grounded.stopped (h : s.Grounded) {q : Sequencer} (hq : q.Sound) (hcurrent : q.current = none)
    (hcaptured : q.captured = none)
    (hhalt : q.converter = .halted ∨ q.haltPending = true ↔ s.seq.converter = .halted ∨ s.seq.haltPending = true) :
    ({ s with seq := q, queues := .none, scheduler := .stopped } : State).ScheduleSound :=
  State.Coherent.scheduleSound
    { h with
      queues := ⟨Nat.zero_le _, .nil, .nil, .nil⟩
      waiting := fun c hw => by cases c <;> cases hw
      queued := fun g hg => by cases hg
      current := by simp [hcurrent]
      captured := by simp [Sequencer.Captured, hcurrent, hcaptured]
      scheduler := ⟨fun _ => ⟨rfl, hcurrent⟩, by simp, by simp⟩
      halt := ⟨fun hh => ⟨(h.halt.1 (hhalt.mp hh)).1, hcurrent⟩, fun hh => hhalt.mpr (h.halt.2 hh)⟩
      sound := hq }
    (State.noneWaitsIdle_of_not_running (by simp))

/-- Step 1 of STOP: the request is gone, and a HALTED converter or a pending halt is as it was. -/
theorem State.ScheduleSound.stopWork (h : s.ScheduleSound) :
    ∃ (q : Sequencer) (r : Ring) (f : Flag → Bool),
      s.stopWork = { s with seq := q, ring := r, alerts := s.alerts.also f } ∧ q.Sound ∧ q.current = none
        ∧ q.captured = none
        ∧ (q.converter = .halted ∨ q.haltPending = true ↔ s.seq.converter = .halted ∨ s.seq.haltPending = true) := by
  have hc := h.coherent
  have hcaptured (hn : s.seq.current = none) : s.seq.captured = none := by
    have := hc.captured.1
    simpa [hn] using this
  have hstays (hn : s.seq.current = none) : ∃ (q : Sequencer) (r : Ring) (f : Flag → Bool),
      s = { s with seq := q, ring := r, alerts := s.alerts.also f } ∧ q.Sound ∧ q.current = none ∧ q.captured = none
        ∧ (q.converter = .halted ∨ q.haltPending = true ↔ s.seq.converter = .halted ∨ s.seq.haltPending = true) :=
    ⟨s.seq, s.ring, fun _ => false, by simp, hc.sound, hn, hcaptured hn, Iff.rfl⟩
  unfold State.stopWork
  split
  case h_5 | h_6 => exact hstays (hc.sound.1 (by simp_all))
  all_goals
    split
    · next hr =>
      obtain ⟨hhalted, hpending, -⟩ := hc.unhalted hr
      rw [State.abortWork_eq, State.dropRequest_eq]
      simp only [State.abortEntries, Alerts.also_also]
      refine ⟨_, _, _, rfl, ?_, rfl, rfl, ?_⟩
      · simp [Sequencer.Sound, Sequencer.ended, hpending]
      · simp [Sequencer.ended, hpending, hhalted]
    · next hr => exact hstays (by simpa using hr)

theorem State.ScheduleSound.stopCommand (h : s.ScheduleSound) : s.stopCommand.state.ScheduleSound := by
  unfold State.stopCommand
  split
  · obtain ⟨q, r, f, hwork, hq, hcurrent, hcaptured, hhalt⟩ := h.stopWork
    have hstopped := h.coherent.stopped hq hcurrent hcaptured hhalt
    have htriggers (i : Fin 2) : ((s.triggers.map fun t : TriggerInput => { t with count := 0 })[i]).record = (s.triggers[i]).record := by
      simp
    simp only [State.accept, State.raise_eq, State.flush_eq, hwork, State.disarmAll, State.endHoldoffs, Alerts.also_also]
    exact State.ScheduleSound.also (State.ScheduleSound.retrigger hstopped htriggers) _
  · exact h

theorem State.ScheduleSound.abortCommand (h : s.ScheduleSound) : s.abortCommand.state.ScheduleSound := by
  have hc := h.coherent
  have haborted (hs : s.seq.current.isSome) : ((s.abortWork .host .recovering).endPausing).ScheduleSound := by
    rw [State.abortWork_endPausing]
    have hentries : (s.abortEntries (s.workDraft .host).toList).Grounded := hc.toGrounded.abortEntries _
    refine (hentries.endRequest hs (.inr rfl)).scheduleSound (State.noneWaitsIdle_of_not_idle ?_)
    simp [State.endRequest_eq, Sequencer.ended]
  unfold State.abortCommand
  split
  case h_1 hk | h_2 hk => exact haborted (hc.current_isSome (by simp [hk]) (by simp [hk]) (by simp [hk]))
  all_goals exact h

theorem State.reset_scheduleSound : State.reset.ScheduleSound := by
  and_intros <;> decide +kernel

/-- A device reset leaves the state of the reset but for the calibration, the port, the pins and the queue. -/
theorem State.deviceReset_scheduleSound (s : State) : s.deviceReset.ScheduleSound := by
  refine State.ScheduleSound.retrigger (s := { State.reset with
    calibration := s.calibration, port := s.port, pins := s.pins, pending := s.pending }) State.reset_scheduleSound
    fun i => ?_
  obtain rfl | rfl : i = 0 ∨ i = 1 := by omega
  · rfl
  · rfl

end
end Sys2Proof.Machine
end

section
/-! SUPPORT. The invariant of the schedule along the demands, the table writes and the events. -/

namespace Sys2Proof.Machine

section
variable {s : State}

/-! ### Resets and the start-up interval -/

theorem State.ScheduleSound.latchLevels (h : s.ScheduleSound) : s.latchLevels.ScheduleSound := by
  refine h.retrigger fun i => ?_
  obtain rfl | rfl : i = 0 ∨ i = 1 := by omega
  · rfl
  · rfl

/-- The end of STARTING; a reference condition present halts the converter with REF_FAULT set. -/
theorem State.ScheduleSound.leaveStarting (h : s.ScheduleSound) (hs : s.scheduler = .starting) :
    s.leaveStarting.ScheduleSound := by
  have hc := h.coherent
  obtain ⟨hqueues, hcurrent⟩ := hc.scheduler.1 (by simp [hs, Scheduler.accepts])
  obtain ⟨hidle, -⟩ := hc.scheduler.2.2 hs
  have hpending := hc.haltPending_false (by simp [hidle])
  have hsnapshot := hc.snapshot_none (by simp [hidle]) (by simp [hidle])
  unfold State.leaveStarting
  simp only [State.raise_eq]
  split
  · next hout =>
    exact State.Coherent.scheduleSound
      { hc with
        scheduler := ⟨fun _ => ⟨hqueues, hcurrent⟩, by simp, by simp⟩
        halt := ⟨fun _ => ⟨by simp [Alerts.also, Latched.also], hcurrent⟩, fun _ => .inl rfl⟩
        sound := by simp [Sequencer.Sound, hcurrent, hsnapshot, hpending] }
      (State.noneWaitsIdle_of_not_running (by simp))
  · next hin =>
    exact State.Coherent.scheduleSound
      { hc with
        scheduler := ⟨fun _ => ⟨hqueues, hcurrent⟩, by simp, by simp⟩
        halt := ⟨fun hh => by simp [hidle, hpending] at hh, fun hh => absurd hh hin⟩ }
      (State.noneWaitsIdle_of_not_running (by simp))

/-! ### Commands that post -/

theorem State.ScheduleSound.postCommand (h : s.ScheduleSound) : s.postCommand.state.ScheduleSound := by
  unfold State.postCommand
  split
  · exact h
  · next haccepts =>
    have haccepts : s.scheduler.accepts = true := by simpa using haccepts
    split
    · exact h
    · next target _ =>
      cases target with
      | channel c =>
        simp only [Bool.false_eq_true, if_false]
        split_ifs with hactive hoff hfull
        · exact h
        · exact h
        · exact h
        · exact h.postImmediate haccepts (by simpa using hactive) (Nat.not_le.mp hfull) (by simp)
      | group g =>
        simp only [Bool.false_eq_true, if_false]
        split_ifs with hempty hactive hfull
        · exact h
        · exact h
        · exact h
        · refine h.postImmediate haccepts (by simpa using hactive) (Nat.not_le.mp hfull) fun g' hg => ?_
          cases hg
          simpa using hempty

/-- An accepted trigger on an input that is not OFF. -/
theorem State.ScheduleSound.acceptTrigger (h : s.ScheduleSound) (haccepts : s.scheduler.accepts = true) {i : Fin 2}
    (hedge : (s.triggers[i]).record.edge ≠ .off) : (s.acceptTrigger i).ScheduleSound := by
  have hbound : s.triggerBound (s.triggers[i]).record.group = true := by
    rw [State.triggerBound_iff]
    exact ⟨i, hedge, rfl⟩
  have hload : ({ s with triggers := s.triggers.set i { s.triggers[i] with count := (s.triggers[i]).record.holdoff } } :
      State).ScheduleSound := by
    refine h.retrigger fun j => ?_
    by_cases hij : i = j
    · subst hij; simp
    · simp [Fin.val_ne_iff.mpr hij]
  exact hload.postTriggered haccepts (h.coherent.bound _ hbound)

theorem State.ScheduleSound.softTriggerCommand (h : s.ScheduleSound) : s.softTriggerCommand.state.ScheduleSound := by
  unfold State.softTriggerCommand
  split
  · exact h
  · next haccepts =>
    split
    · exact h
    · next i _ =>
      split
      · exact h
      · next hedge =>
        split
        · exact h
        · split
          · exact h
          · exact h.acceptTrigger (by simpa using haccepts) hedge

/-- Calibrations posted one after the other; a posting changes neither the scheduler nor the active phases. -/
theorem State.ScheduleSound.postMaintenances (l : List CalTarget) :
    ∀ {s : State}, s.ScheduleSound → s.scheduler.accepts = true → s.active .maintenance = true →
      (l.foldl (fun t m => t.postMaintenance m) s).ScheduleSound := by
  induction l with
  | nil => exact fun h _ _ => h
  | cons m l ih =>
    intro s h haccepts hactive
    refine ih (h.postMaintenance haccepts hactive m) ?_ ?_
    · rw [(State.postMaintenance_servesOnly m s).scheduler_eq]; exact haccepts
    · rw [State.postMaintenance_active]; exact hactive

theorem State.ScheduleSound.calibrateCommand (h : s.ScheduleSound) : s.calibrateCommand.state.ScheduleSound := by
  unfold State.calibrateCommand
  split
  · exact h
  · next haccepts =>
    split
    · exact h
    · split
      · exact h
      · next hactive => exact .postMaintenances _ h (by simpa using haccepts) (by simpa using hactive)

/-! ### Table writes and the bank swap -/

/-- A channel record that R5 accepts. -/
theorem parseChannel_valid {b : Vector Byte 40} {r : ChannelRecord} (h : parseChannel b = .ok r) : r.Valid := by
  unfold parseChannel at h
  dsimp only at h
  split at h; · cases h
  split at h; · cases h
  split at h; · cases h
  split at h; · cases h
  next hsame =>
    split at h; · cases h
    split at h; · cases h
    next hsettling =>
      split at h; · cases h
      next hoffset =>
        split at h; · cases h
        next hband =>
          cases h
          exact ⟨hsettling, hsame, fun hp => by_contra fun hlt => hoffset ⟨hp, hlt⟩, Nat.not_lt.mp hband⟩

/-- A group list that R14 accepts. -/
theorem parseGroup_valid {b : Vector Byte 40} {l : List (Fin 16)} (h : parseGroup b = .ok l) :
    l.length ≤ 8 ∧ l.Nodup := by
  unfold parseGroup at h
  split at h; · cases h
  next hcount =>
    split at h; · cases h
    next members hmembers =>
      split at h
      · next hnodup =>
        cases h
        have hlength := congrArg List.length (mapM_byteFin_eq_some.mp hmembers)
        simp only [List.length_map, List.length_take] at hlength
        exact ⟨by omega, hnodup⟩
      · cases h

/-- A bank that R58 accepts. -/
theorem parsePhase_valid {b : Vector Byte 40} {p : PhaseBank} (h : parsePhase b = .ok p) : p.Valid := by
  unfold parsePhase at h
  split at h; · cases h
  next hlength =>
    split at h; · cases h
    split at h
    · next hclass =>
      cases h
      exact ⟨by simp; omega, by simp; omega, hclass⟩
    · cases h

/-! #### The banks -/

@[simp] theorem Arbiter.storeStandby_activeBank (b : PhaseBank) (a : Arbiter) :
    (a.storeStandby b).activeBank = a.activeBank := by
  obtain ⟨_, _, _ | _, _⟩ := a <;> rfl

@[simp] theorem Arbiter.storeStandby_pointer (b : PhaseBank) (a : Arbiter) :
    (a.storeStandby b).pointer = a.pointer := by
  obtain ⟨_, _, _ | _, _⟩ := a <;> rfl

theorem Arbiter.storeStandby_valid {b : PhaseBank} {a : Arbiter} (h : b.Valid) (ha : a.bankA.Valid)
    (hb : a.bankB.Valid) : (a.storeStandby b).bankA.Valid ∧ (a.storeStandby b).bankB.Valid := by
  obtain ⟨_, _, _ | _, _⟩ := a
  · exact ⟨ha, h⟩
  · exact ⟨h, hb⟩

/-- A swap makes the standby bank the active one. -/
@[simp] theorem Arbiter.swap_activeBank (a : Arbiter) : a.swap.activeBank = a.standbyBank := by
  obtain ⟨_, _, _ | _, _⟩ := a <;> rfl

theorem Arbiter.standbyBank_valid {a : Arbiter} (ha : a.bankA.Valid) (hb : a.bankB.Valid) : a.standbyBank.Valid := by
  obtain ⟨_, _, _ | _, _⟩ := a
  · exact hb
  · exact ha

/-- The member in flight aborted by its channel's disable. -/
theorem State.ScheduleSound.abortDisabled (h : s.ScheduleSound) (i : Fin 16) : (s.abortDisabled i).ScheduleSound := by
  have hc := h.coherent
  unfold State.abortDisabled
  split
  · exact h
  · next r hr =>
    have hsome : s.seq.current.isSome := by simp [hr]
    obtain ⟨-, hpending, hcondition⟩ := hc.unhalted hsome
    have haccepts := hc.accepts hsome
    split
    · have hentry : (s.produceAborted (s.memberDraft .disabled r i s.seq.position)).Grounded := by
        rw [State.produceAborted_eq]
        exact { hc.also _ with }
      rw [State.produceAborted_eq] at hentry ⊢
      dsimp only
      split
      · next hmore =>
        have hgroup := Sequencer.group_isSome_of_members (q := s.seq) (by omega)
        refine State.Coherent.scheduleSound ?_ (State.noneWaitsIdle_of_not_idle (by simp))
        exact
          { hentry with
            scheduler := ⟨hc.scheduler.1, hc.scheduler.2.1, fun hs => by
              rw [show s.scheduler = .starting from hs] at haccepts; cases haccepts⟩
            halt := ⟨fun hh => by simp [hpending] at hh, fun hh => by simp [hcondition] at hh⟩
            sound := ⟨by simp, by simp, by simp, fun _ _ => ⟨hmore, hgroup⟩, by simp, fun _ => rfl⟩ }
      · refine (hentry.endRequest hsome (.inr rfl)).scheduleSound (State.noneWaitsIdle_of_not_idle ?_)
        simp [State.endRequest_eq, Sequencer.ended]
    · exact h

theorem State.ScheduleSound.withdrawChannel (h : s.ScheduleSound) (i : Fin 16) :
    (s.withdrawChannel i).ScheduleSound := by
  have hq := h.coherent.queues
  unfold State.withdrawChannel
  rw [State.foldl_withdraw]
  refine State.ScheduleSound.also (State.ScheduleSound.requeue (s := s) h ?_ ?_ ?_) _
  · exact
      { hq with
        immediate := (List.length_filter_le _ _).trans hq.immediate
        cadence := hq.cadence.sublist (List.Sublist.map _ List.filter_sublist) }
  · intro c hw
    cases c with
    | triggered | maintenance => exact hw
    | immediate | cadence =>
      simp only [Queues.waiting, Bool.not_eq_true', List.isEmpty_eq_false_iff] at hw ⊢
      exact fun hn => hw (by simp [hn])
  · intro g hg
    simp only [Queues.names, Bool.or_eq_true, List.any_eq_true, List.mem_filter] at hg ⊢
    exact hg.imp_left fun ⟨r, ⟨hr, _⟩, ht⟩ => ⟨r, hr, ht⟩

theorem State.ScheduleSound.recadence (h : s.ScheduleSound) (i : Fin 16) (old : ChannelRecord) :
    (s.recadence i old).ScheduleSound := by
  unfold State.recadence
  dsimp only
  split
  · exact h
  · next haccepts =>
    split
    · split
      · exact h
      · exact h.arm (by simpa using haccepts) i
    · split
      · exact h
      · exact h

theorem State.ScheduleSound.storeChannel (h : s.ScheduleSound) (i : Fin 16) {new : ChannelRecord} (hnew : new.Valid) :
    (s.storeChannel i new).ScheduleSound := by
  have hc := h.coherent
  have hstored : ({ s with channels := s.channels.set i new } : State).ScheduleSound := by
    refine State.Coherent.scheduleSound { hc with tables := ⟨fun c => ?_, hc.tables.2⟩ } h.noneWaits
    by_cases hic : i = c
    · subst hic; simpa using hnew
    · simpa [Vector.getElem_set, Fin.val_ne_iff.mpr hic] using hc.tables.1 c
  unfold State.storeChannel
  simp only [State.evaluate_eq]
  split
  · exact ((hstored.abortDisabled i).withdrawChannel i).recadence i _
  · exact hstored.recadence i _

theorem State.ScheduleSound.writeGroup (h : s.ScheduleSound) (g : Fin 4) : (s.writeGroup g).state.ScheduleSound := by
  have hc := h.coherent
  unfold State.writeGroup
  split
  · exact h
  · next members hmembers =>
    split
    · exact h
    · next hbound =>
      split
      · exact h
      · next hheld =>
        have hdefined {g' : Fin 4} (hg : s.groups[g'] ≠ []) (hempty : g = g' → members ≠ []) :
            (s.groups.set g members)[g'] ≠ [] := by
          by_cases hgg : g = g'
          · subst hgg; simpa using hempty rfl
          · simpa [Vector.getElem_set, Fin.val_ne_iff.mpr hgg] using hg
        have hhas (g' : Fin 4) (hn : s.triggerBound g' = true ∨ s.requestHeld g' = true) (hg : g = g') :
            members ≠ [] := by
          rintro rfl
          subst hg
          simp_all
        have hheld_of (g' : Fin 4)
            (hn : s.queues.names g' = true ∨ s.seq.current.bind Request.group? = some g') : s.requestHeld g' = true := by
          simpa [State.requestHeld, Queues.names] using hn
        rw [State.accept_state]
        refine State.Coherent.scheduleSound
          { hc with
            tables := ⟨hc.tables.1, fun g' => ?_⟩
            bound := fun g' hb => hdefined (hc.bound g' hb) (hhas g' (.inl hb))
            queued := fun g' hq => hdefined (hc.queued g' hq) (hhas g' (.inr (hheld_of g' (.inl hq))))
            current := fun g' hr => hdefined (hc.current g' hr) (hhas g' (.inr (hheld_of g' (.inr hr)))) } h.noneWaits
        by_cases hgg : g = g'
        · subst hgg; simpa using parseGroup_valid hmembers
        · simpa [Vector.getElem_set, Fin.val_ne_iff.mpr hgg] using hc.tables.2 g'

theorem State.ScheduleSound.writeTrigger (h : s.ScheduleSound) (i : Fin 2) :
    (s.writeTrigger i).state.ScheduleSound := by
  have hc := h.coherent
  unfold State.writeTrigger
  split
  · exact h
  · next record _ =>
    split
    · exact h
    · next hdefined =>
      rw [State.accept_state]
      refine State.Coherent.scheduleSound { hc with bound := fun g hg => ?_ } h.noneWaits
      rw [State.triggerBound_iff] at hg
      obtain ⟨j, hedge, hgroup⟩ := hg
      by_cases hij : i = j
      · subst hij
        simp only [Fin.getElem_fin, Vector.getElem_set_self] at hedge hgroup
        subst hgroup
        simpa [hedge] using hdefined
      · simp only [Fin.getElem_fin, Vector.getElem_set_ne _ _ (Fin.val_ne_iff.mpr hij)] at hedge hgroup
        exact hc.bound g ((s.triggerBound_iff g).mpr ⟨j, hedge, hgroup⟩)

theorem State.ScheduleSound.writePhase (h : s.ScheduleSound) : s.writePhase.state.ScheduleSound := by
  have hc := h.coherent
  unfold State.writePhase
  split
  · exact h
  · next bank hbank =>
    have hvalid := parsePhase_valid hbank
    obtain ⟨ha, hb, hpointer⟩ := hc.banks
    obtain ⟨ha', hb'⟩ := Arbiter.storeStandby_valid hvalid ha hb
    rw [State.accept_state]
    refine State.Coherent.scheduleSound
      { hc with
        banks := ⟨ha', hb', ?_⟩
        waiting := fun c hw => ?_ } h.noneWaits
    · rw [Arbiter.storeStandby_activeBank, Arbiter.storeStandby_pointer]
      exact hpointer
    · rw [State.active, Arbiter.storeStandby_activeBank]
      exact hc.waiting c hw

theorem State.ScheduleSound.writeTableCommand (h : s.ScheduleSound) : s.writeTableCommand.state.ScheduleSound := by
  unfold State.writeTableCommand
  split
  · next i _ =>
    unfold State.writeChannel
    split
    · exact h
    · next new hnew => exact h.storeChannel i (parseChannel_valid hnew)
  · exact h.writeGroup _
  · exact h.writeTrigger _
  · exact h.writePhase
  all_goals exact h

/-- A swap leaves no class with requests and no phase. -/
theorem State.ScheduleSound.swapCommand (h : s.ScheduleSound) : s.swapCommand.state.ScheduleSound := by
  have hc := h.coherent
  obtain ⟨ha, hb, -⟩ := hc.banks
  unfold State.swapCommand
  split_ifs with hi ht hcad hm
  · exact h
  · exact h
  · exact h
  · exact h
  · rw [State.accept_state]
    refine State.Coherent.scheduleSound
      { hc with
        banks := ⟨ha, hb, ?_⟩
        waiting := fun c hw => ?_ } h.noneWaits
    · rw [Arbiter.swap_activeBank]
      exact (Arbiter.standbyBank_valid ha hb).1
    · have hstranded : s.stranded c = false := by
        cases c <;> simp_all
      have hw' : s.queues.waiting c = true := hw
      simpa [State.stranded, State.active, hw'] using hstranded

end
end Sys2Proof.Machine
end

section
/-! SUPPORT. The invariant of the schedule along the events, and along every row. -/

namespace Sys2Proof.Machine

section
variable {s : State}

/-! ### The sequencer's events -/

theorem State.ScheduleSound.settle (h : s.ScheduleSound) (hk : s.seq.converter = .settling) : s.settle.ScheduleSound := by
  have hc := h.coherent
  have hmember := hc.sound.2.1 (.inl hk)
  have hpending := hc.haltPending_false (by simp [hk])
  have hcurrent := hc.current_isSome (by simp [hk]) (by simp [hk]) (by simp [hk])
  obtain ⟨-, -, hcondition⟩ := hc.unhalted hcurrent
  have haccepts := hc.accepts hcurrent
  refine State.Coherent.scheduleSound ?_ (State.noneWaitsIdle_of_not_idle (by simp))
  exact
    { hc with
      scheduler := ⟨hc.scheduler.1, hc.scheduler.2.1, fun hs => by
        rw [show s.scheduler = .starting from hs] at haccepts; cases haccepts⟩
      halt := ⟨fun hh => by simp [hpending] at hh, fun hh => by simp [hcondition] at hh⟩
      sound := ⟨by simp, fun _ => hmember, by simp, by simp, fun _ => .inr rfl, fun hh => by simp [hpending] at hh⟩ }

/-- What the completion of a member does before the next turn does not touch the schedule but for the snapshot. -/
theorem State.ScheduleSound.completeMember (h : s.ScheduleSound) (hcurrent : s.seq.current.isSome) (raw : Word16)
    (r : Request) (c : Fin 16) (m : MemberSnapshot) : (s.completeMember raw r c m).ScheduleSound := by
  have hc := h.coherent
  unfold State.completeMember
  simp only [State.recordSample, State.evaluate_eq, State.produce_eq]
  have hbefore (v : Vector MonitorRecord 16) (q : Ring) (f : Flag → Bool) : ({ s with
      seq := { s.seq with snapshot := none }, monitors := v, ring := q, alerts := s.alerts.also f } : State).Grounded :=
    { hc.also f with }
  exact (hbefore _ _ _).goOn hcurrent _

theorem State.ScheduleSound.completeCalibration (h : s.ScheduleSound) {m : Merged CalTarget}
    (hcurrent : s.seq.current = some (.maintenance m)) (raw : Word16) : (s.completeCalibration raw m).ScheduleSound := by
  have hc := h.coherent
  unfold State.completeCalibration
  simp only [State.raise_eq, State.produce_eq, Alerts.also_also]
  have hbefore (v : Vector CalRecord 4) (q : Ring) (f : Flag → Bool) : ({ s with
      calibration := v, ring := q, alerts := s.alerts.also f } : State).Grounded := { hc.also f with }
  exact ((hbefore _ _ _).endRequest (by simp [hcurrent]) (.inl rfl)).arbitrate

/-- The converter released to IDLE with no request current, and arbitration. -/
theorem State.Coherent.release (h : s.Coherent) (hcurrent : s.seq.current = none) (hpending : s.seq.haltPending = false)
    (hcondition : s.refCondition = false) (hsnapshot : s.seq.snapshot = none) (flags : Latched) :
    (({ s with
      seq := { s.seq with converter := .idle }, alerts := { s.alerts with flags := flags } } : State).arbitrate).ScheduleSound := by
  refine State.Coherent.arbitrate ?_
  exact
    { h with
      scheduler := ⟨h.scheduler.1, h.scheduler.2.1, fun _ => ⟨rfl, hcondition⟩⟩
      halt := ⟨fun hh => by simp [hpending] at hh, fun hh => by simp [hcondition] at hh⟩
      sound := by simp [Sequencer.Sound, hcurrent, hpending, hsnapshot] }

/-- The end of a recovery: a pending halt is taken, the group goes on, or the converter is released. -/
theorem State.ScheduleSound.endRecovery (h : s.ScheduleSound) (hk : s.seq.converter = .recovering) :
    s.endRecovery.ScheduleSound := by
  have hc := h.coherent
  have hsnapshot := hc.snapshot_none (by simp [hk]) (by simp [hk])
  unfold State.endRecovery
  split
  · next hpending =>
    obtain ⟨hflag, hcurrent⟩ := hc.halt.1 (.inr hpending)
    refine State.Coherent.scheduleSound ?_ (State.noneWaitsIdle_of_not_idle (by simp))
    exact
      { hc with
        scheduler := ⟨hc.scheduler.1, hc.scheduler.2.1, fun hs => by
          have := (hc.scheduler.2.2 hs).1
          simp [hk] at this⟩
        halt := ⟨fun _ => ⟨hflag, hcurrent⟩, fun _ => .inl rfl⟩
        sound := by simp [Sequencer.Sound, hcurrent, hsnapshot] }
  · next hpending =>
    split
    · next hcurrent => exact hc.goOn hcurrent _
    · next hcurrent =>
      refine hc.release (by simpa using hcurrent) (by simpa using hpending) ?_ hsnapshot s.alerts.flags
      by_contra hn
      have := hc.halt.2 (by simpa using hn)
      simp [hk, hpending] at this

/-! ### The reference -/

/-- With no request current, a converter halted, or a halt pending, under a reference condition. -/
theorem State.Coherent.halting (h : s.Coherent) (hcurrent : s.seq.current = none) (hsnapshot : s.seq.snapshot = none)
    (hs : s.scheduler ≠ .starting) (pins : Pins) {k : Converter} {pending : Bool} {f : Flag → Bool}
    (hk : k = .halted ∧ pending = false ∨ k = .recovering ∧ pending = true) (hf : f .refFault = true) :
    ({ s with
      pins := pins
      seq := { s.seq with converter := k, haltPending := pending }
      refCondition := true
      alerts := s.alerts.also f } : State).ScheduleSound := by
  refine State.Coherent.scheduleSound ?_ (State.noneWaitsIdle_of_not_idle (by obtain ⟨rfl, -⟩ | ⟨rfl, -⟩ := hk <;> simp))
  exact
    { h with
      scheduler := ⟨h.scheduler.1, h.scheduler.2.1, fun hn => absurd hn hs⟩
      halt := ⟨fun _ => ⟨by simp [Alerts.also, Latched.also, hf], hcurrent⟩, fun _ => hk.imp And.left And.right⟩
      sound := by obtain ⟨rfl, rfl⟩ | ⟨rfl, rfl⟩ := hk <;> simp [Sequencer.Sound, hcurrent, hsnapshot] }

/-- The work in progress ended with its entry under a reference condition: the converter halts, or a halt pends. -/
theorem State.Grounded.abortForReference (h : s.Grounded) (hcurrent : s.seq.current.isSome) (pins : Pins) (r : Ring)
    {k : Converter} {pending : Bool} {f : Flag → Bool}
    (hk : k = .halted ∧ pending = false ∨ k = .recovering ∧ pending = true) (hf : f .refFault = true) :
    ({ s with
      pins := pins
      ring := r
      seq := { s.seq.ended k with haltPending := pending }
      scheduler := s.scheduler.afterEnd true
      refCondition := true
      alerts := s.alerts.also f } : State).ScheduleSound := by
  have hended := h.ended hcurrent (k := k) (pending := pending) (condition := true) f
    (.inr (hk.symm.imp And.left And.left)) (by obtain ⟨-, rfl⟩ | ⟨rfl, -⟩ := hk <;> simp) (fun _ => hf)
    (fun _ => hk.imp And.left And.right)
  refine State.Coherent.scheduleSound { hended with }
    (State.noneWaitsIdle_of_not_idle (by obtain ⟨rfl, -⟩ | ⟨rfl, -⟩ := hk <;> simp [Sequencer.ended]))

/-- An onset out of STARTING halts the converter, or pends the halt for the end of the recovery, with REF_FAULT set. -/
theorem State.ScheduleSound.haltForReference (h : s.ScheduleSound) (hs : s.scheduler ≠ .starting) (pins : Pins) :
    (({ s with pins := pins, refCondition := true } : State).raise .refFault).haltForReference.ScheduleSound := by
  have hc := h.coherent
  rw [State.raise_eq]
  unfold State.haltForReference
  dsimp only
  cases hk : s.seq.converter with
  | idle =>
    exact hc.halting (hc.sound.1 (.inl hk)) (hc.snapshot_none (by simp [hk]) (by simp [hk])) hs pins
      (.inl ⟨rfl, hc.haltPending_false (by simp [hk])⟩) (by simp)
  | halted =>
    exact hc.halting (hc.sound.1 (.inr hk)) (hc.snapshot_none (by simp [hk]) (by simp [hk])) hs pins
      (.inl ⟨hk, hc.haltPending_false (by simp [hk])⟩) (by simp)
  | settling | converting | calibrating =>
    have hcurrent := hc.current_isSome (by simp [hk]) (by simp [hk]) (by simp [hk])
    dsimp only
    rw [State.abortWork_endPausing, State.endRequest_eq]
    simp only [State.abortEntries, Alerts.also_also]
    exact hc.abortForReference hcurrent pins _ (.inl ⟨rfl, hc.haltPending_false (by simp [hk])⟩) (by simp)
  | recovering =>
    dsimp only
    split
    · next hcurrent =>
      rw [State.abortWork_endPausing, State.endRequest_eq]
      simp only [State.abortEntries, Alerts.also_also]
      exact hc.abortForReference hcurrent pins _ (.inr ⟨rfl, rfl⟩) (by simp)
    · next hcurrent =>
      exact hc.halting (by simpa using hcurrent) (hc.snapshot_none (by simp [hk]) (by simp [hk])) hs pins
        (.inr ⟨hk, rfl⟩) (by simp)

/-- A request to clear REF_FAULT that is granted releases a HALTED converter. -/
theorem State.ScheduleSound.requestRefFaultClear (h : s.ScheduleSound) : s.requestRefFaultClear.ScheduleSound := by
  have hc := h.coherent
  unfold State.requestRefFaultClear
  split
  · exact h
  · next hno =>
    simp only [Bool.or_eq_true, not_or, Bool.not_eq_true] at hno
    obtain ⟨hcondition, hpending⟩ := hno
    dsimp only
    split
    · next hk =>
      have hcurrent := hc.sound.1 (.inr hk)
      have hsnapshot := hc.snapshot_none (by simp [hk]) (by simp [hk])
      exact hc.release hcurrent hpending hcondition hsnapshot { s.alerts.flags with refFault := false }
    · next hk =>
      refine State.Coherent.scheduleSound ?_ h.noneWaits
      exact
        { hc with
          halt := ⟨fun hh => by simp [hk, hpending] at hh, fun hh => by simp [hcondition] at hh⟩ }

theorem State.ScheduleSound.clearFlagsHigh (h : s.ScheduleSound) (v : Byte) : (s.clearFlagsHigh v).ScheduleSound := by
  have hcleared : ({ s with alerts := { s.alerts with flags := s.alerts.flags.clearHigh v } } : State).ScheduleSound := h
  unfold State.clearFlagsHigh
  dsimp only
  split
  · exact hcleared.requestRefFaultClear
  · exact hcleared

/-! ### The tick and the trigger inputs -/

theorem State.ScheduleSound.tick (h : s.ScheduleSound) : s.tick.ScheduleSound := by
  have ht := h.takeExpiries
  unfold State.tick
  generalize s.takeExpiries = t at ht
  refine State.ScheduleSound.retrigger (s := { t with
    timebase := t.timebase + 1, intervalSel := t.tickSel, cadence := t.cadence.map Cadence.tick }) ht fun i => ?_
  simp only [Fin.getElem_fin, Vector.getElem_map, TriggerInput.tick]
  split <;> rfl

theorem State.ScheduleSound.changeLevel (h : s.ScheduleSound) (i : Fin 2) (level : Bool) :
    (s.changeLevel i level).ScheduleSound := by
  have hpins : ({ s with pins := { s.pins with trig := s.pins.trig.set i level } } : State).ScheduleSound := h
  have hrecord (j : Fin 2) : ((s.triggers.set i { s.triggers[i] with lastLevel := level })[j]).record =
      (s.triggers[j]).record := by
    by_cases hij : i = j
    · subst hij; simp
    · simp [Fin.val_ne_iff.mpr hij]
  have hseen := hpins.retrigger hrecord
  unfold State.changeLevel
  dsimp only
  split
  · exact hpins
  · split
    · next haccepted =>
      simp only [State.edgeAccepted, Bool.and_eq_true] at haccepted
      obtain ⟨-, ⟨hfits, haccepts⟩, -⟩ := haccepted
      refine State.ScheduleSound.acceptTrigger hseen haccepts ?_
      have hedge : (s.triggers[i]).record.edge ≠ .off := fun hoff => by rw [hoff] at hfits; cases hfits
      have hsame := congrArg TriggerRecord.edge (hrecord i)
      exact fun hoff => hedge (hsame.symm.trans hoff)
    · exact hseen

/-! ### Operations that leave the schedule alone -/

/-- The monitor records are no part of the schedule. -/
theorem State.ScheduleSound.remonitor (h : s.ScheduleSound) (v : Vector MonitorRecord 16) :
    ({ s with monitors := v } : State).ScheduleSound := h

/-- The command block is no part of the schedule. -/
theorem State.ScheduleSound.recommand (h : s.ScheduleSound) (b : CommandBlock) :
    ({ s with command := b } : State).ScheduleSound := h

theorem State.ScheduleSound.readTableCommand (h : s.ScheduleSound) : s.readTableCommand.state.ScheduleSound := by
  unfold State.readTableCommand
  split
  · exact h
  · exact h.recommand _

theorem State.ScheduleSound.releaseCommand (h : s.ScheduleSound) : s.releaseCommand.state.ScheduleSound := by
  unfold State.releaseCommand
  split
  · exact h
  · dsimp only; split_ifs <;> exact h

theorem State.ScheduleSound.configCommand (h : s.ScheduleSound) : s.configCommand.state.ScheduleSound := by
  unfold State.configCommand
  dsimp only
  split
  · exact h
  · split_ifs <;> exact h

theorem State.ScheduleSound.setTickCommand (h : s.ScheduleSound) : s.setTickCommand.state.ScheduleSound := by
  unfold State.setTickCommand; split_ifs <;> exact h

theorem State.ScheduleSound.setReferenceCommand (h : s.ScheduleSound) : s.setReferenceCommand.state.ScheduleSound := by
  unfold State.setReferenceCommand
  simp only [State.putReference_eq]
  split
  · exact h
  · split_ifs
    · exact h.remonitor _
    · exact h.remonitor _
    · exact h

theorem State.ScheduleSound.storeByte (h : s.ScheduleSound) (a v : Byte) : (s.storeByte a v).ScheduleSound := by
  unfold State.storeByte; dsimp only; split_ifs <;> exact h

theorem State.ScheduleSound.csnFalls (h : s.ScheduleSound) (sclkHigh : Bool) : (s.csnFalls sclkHigh).ScheduleSound := by
  unfold State.csnFalls; split <;> exact h

/-- The condition gone, a HALTED converter and a pending halt stay. -/
theorem State.ScheduleSound.referenceRecovery (h : s.ScheduleSound) :
    ({ s with pins := { s.pins with refOutside := false }, refCondition := false } : State).ScheduleSound := by
  have hc := h.coherent
  refine State.Coherent.scheduleSound ?_ h.noneWaits
  exact
    { hc with
      scheduler := ⟨hc.scheduler.1, hc.scheduler.2.1, fun hs => ⟨(hc.scheduler.2.2 hs).1, rfl⟩⟩
      halt := ⟨hc.halt.1, by simp⟩ }

theorem Sequencer.current_isSome_of_inFlight {q : Sequencer} {m : Request × Fin 16 × MemberSnapshot}
    (h : q.inFlight = some m) : q.current.isSome := by
  unfold Sequencer.inFlight at h
  split at h
  · next hr _ _ => simp [hr]
  · cases h

/-! ### Every row -/

/-- The acknowledgement of a read changes monitor records alone. -/
theorem State.acknowledge_frame (s : State) : ∃ v, s.acknowledge = ({ s with monitors := v } : State) := by
  unfold State.acknowledge
  split
  · exact ⟨s.monitors, rfl⟩
  · refine List.foldlRecOn (motive := fun t : State => ∃ v, t = ({ s with monitors := v } : State)) _ _ ⟨s.monitors, rfl⟩ ?_
    rintro _ ⟨v, rfl⟩ c _
    split
    · exact ⟨_, State.putReference_eq _ _ _⟩
    · exact ⟨v, rfl⟩

/-- Each of the 46 rows keeps the invariant of the schedule. -/
theorem exec_keeps_scheduleSound (i : Instr) (s : State) (h : s.ScheduleSound) :
    Leaves State.ScheduleSound (exec i s) := by
  have hc := h.coherent
  cases i with
  | start => exact h.commandRow _ _ fun _ ht _ => ht.startCommand
  | pause => exact h.commandRow _ _ fun _ ht _ => ht.pauseCommand
  | resume => exact h.commandRow _ _ fun _ ht _ => ht.resumeCommand
  | stop => exact h.commandRow _ _ fun _ ht _ => ht.stopCommand
  | abortCurrent => exact h.commandRow _ _ fun _ ht _ => ht.abortCommand
  | post => exact h.commandRow _ _ fun _ ht _ => ht.postCommand
  | softTrigger => exact h.commandRow _ _ fun _ ht _ => ht.softTriggerCommand
  | calibrate => exact h.commandRow _ _ fun _ ht _ => ht.calibrateCommand
  | tableRead => exact h.commandRow _ _ fun _ ht _ => ht.readTableCommand
  | tableWrite => exact h.commandRow _ _ fun _ ht _ => ht.writeTableCommand
  | swapBanks => exact h.commandRow _ _ fun _ ht _ => ht.swapCommand
  | ringRelease => exact h.commandRow _ _ fun _ ht _ => ht.releaseCommand
  | ringClear => exact h.commandRow _ _ fun _ ht _ => ht
  | ringConfig => exact h.commandRow _ _ fun _ ht _ => ht.configCommand
  | setReference => exact h.commandRow _ _ fun _ ht _ => ht.setReferenceCommand
  | setTick => exact h.commandRow _ _ fun _ ht _ => ht.setTickCommand
  | deviceReset =>
    refine leaves_occur h fun _ => ?_
    unfold State.resetCommand
    split
    · exact h.takeCommand _ fun _ ht _ => ht
    · exact s.advance.deviceReset_scheduleSound
  | unknownCommandCode code => exact h.commandRow _ _ fun _ ht _ => ht
  | clearLatchedFlag value =>
    exact leaves_either h (h.takeRegister fun ht => ht) (h.takeRegister fun ht => ht.clearFlagsHigh value)
  | refFaultClear value => exact leaves_occur h fun _ => h.takeRegister fun ht => ht.clearFlagsHigh value
  | alertEnableWrite value => exact leaves_either h (h.takeRegister fun ht => ht) (h.takeRegister fun ht => ht)
  | alertMasterWrite value => exact leaves_occur h fun _ => h.takeRegister fun ht => ht
  | deviationSetClearRequest value =>
    exact leaves_either h (h.takeRegister fun ht => ht.remonitor _) (h.takeRegister fun ht => ht.remonitor _)
  | registerWrite value => exact leaves_occur h fun _ => h.takeRegister fun ht => ht.storeByte _ value
  | readSnapshot address => exact leaves_occur h fun _ => h
  | acknowledgingRead partialBits =>
    refine leaves_occur h fun _ => ?_
    obtain ⟨v, hv⟩ := s.acknowledge_frame
    rw [hv]
    exact h
  | rstnLow => exact leaves_next s.deviceReset_scheduleSound
  | rstnRise => exact leaves_occur h fun _ => State.ScheduleSound.latchLevels (s := { s with pins := _ }) h
  | por => exact leaves_next s.deviceReset_scheduleSound
  | supplyEstablished => exact leaves_occur h fun _ => State.ScheduleSound.latchLevels (s := { s with pins := _ }) h
  | endOfStarting => exact leaves_occur h fun hb => h.leaveStarting (by simp_all)
  | tick => exact leaves_occur h fun _ => h.tick
  | cadenceExpiry channel =>
    refine leaves_occur h fun hb => h.expire ?_ channel
    have hdue := List.find?_some (of_decide_eq_true hb)
    simp only [State.expiryDue, Bool.and_eq_true] at hdue
    exact hdue.2
  | holdoffEnd input => exact leaves_occur h fun _ => h
  | triggerEdge input level => exact leaves_occur h fun _ => h.changeLevel input level
  | referenceOnset =>
    refine leaves_next ?_
    dsimp only
    split
    · exact h
    · next hs => exact h.haltForReference hs _
  | referenceRecovery => exact leaves_next h.referenceRecovery
  | endOfSettling => exact leaves_occur h fun hb => h.settle (by simpa using hb)
  | conversionCompletion raw =>
    simp only [exec, execConversionCompletion]
    split
    · next hflight => exact leaves_occur h fun _ => h.completeMember (Sequencer.current_isSome_of_inFlight hflight) raw _ _ _
    · exact leaves_next h
  | calibrationCompletion raw =>
    simp only [exec, execCalibrationCompletion]
    split
    · next hcurrent => exact leaves_occur h fun _ => h.completeCalibration hcurrent raw
    · exact leaves_next h
  | endOfRecovery => exact leaves_occur h fun hb => h.endRecovery (by simpa using hb)
  | csnFall sclkHigh => exact leaves_occur h fun _ => h.csnFalls sclkHigh
  | headerByte value => exact leaves_occur h fun _ => h
  | writeAddressByte address => exact leaves_occur h fun _ => h
  | readDataByte => exact leaves_occur h fun _ => h
  | csnRise partialBits => exact leaves_occur h fun _ => h

end

/-- Settles O59: every row keeps the invariant, and it does not speak of the rows to come. -/
theorem scheduleStaysSound : Obligations.ScheduleStaysSound :=
  fun _ _ hs h => step_keeps (fun _ _ ht => ht) exec_keeps_scheduleSound hs h

end Sys2Proof.Machine
end

section
/-! SUPPORT. What a command that is taken leaves; and the statements on the reset, on arbitration, and on group and trigger
writes. -/

namespace Sys2Proof.Machine

/-! ### What a command leaves -/

/-- A command out of STARTING is carried out past its byte. -/
theorem State.occur_takeCommand {s : State} (h : s.takesByteAt 0x14) (code : Byte) (f : State → Answer) :
    s.occur (s.writingAt 0x14) (s.takeCommand code f) = .next ((f s.advance).leave code) := by
  rw [(State.writingAt_iff _ _).mpr h.1, State.occur_true, State.takeCommand_eq _ _ _ h.2]

/-- TABLE_WRITE out of STARTING. -/
theorem exec_tableWrite {s : State} (h : s.takesByteAt 0x14) :
    exec .tableWrite s = .next (s.advance.writeTableCommand.leave 0x21) :=
  State.occur_takeCommand h 0x21 State.writeTableCommand

/-- A refusal leaves the answered state. -/
theorem State.refuseWith_leave (code : Byte) (r : ResultCode) (d : DetailCode) (s : State) :
    (s.advance.refuseWith r d).leave code = s.answered code r d := by
  rw [Answer.leave_eq]
  simp only [State.refuseWith, State.advance, State.answered, Port.past]
  congr 2
  funext g; cases g <;> simp
  exact decide_not

/-- An accepted command leaves OK, no detail and the echo besides its own effect. -/
theorem State.accept_leave (code : Byte) (s : State) :
    s.accept.leave code = { s with command := { s.command with result := .ok, detail := .none, echo := code } } := by
  simp [Answer.leave_eq, State.accept]

/-- What is left apart from an accepted command's own effect; CMD_ERROR stays as it is. -/
theorem State.answered_ok (code : Byte) (s : State) :
    s.answered code .ok .none =
      { s with port := s.port.past, command := { s.command with result := .ok, detail := .none, echo := code } } := by
  rw [State.answered, Alerts.also_congr (g := fun _ => false)]
  · simp
  · intro f; cases f <;> rfl

/-! ### The reset -/

/-- Settles O5: every value of the reset state is computed, and so are the invariants at it. -/
theorem resetValues : Obligations.ResetValues := by
  unfold Obligations.ResetValues
  refine ⟨by decide, by decide, rfl, rfl, rfl, by decide, by decide, ⟨rfl, rfl, rfl, rfl, by decide⟩,
    ⟨rfl, rfl, rfl, rfl, rfl, rfl⟩, rfl, rfl, rfl, ⟨by decide, by decide, rfl, rfl, rfl⟩, ⟨rfl, rfl, rfl, by decide⟩,
    ⟨rfl, rfl, rfl, rfl, rfl⟩, State.reset_scheduleSound, by decide, ?_, ?_, by decide, by decide⟩
  · exact ⟨Nat.zero_le _, le_rfl, by decide, by simp [State.reset, Ring.reset], fun k hk => absurd hk (Nat.not_lt_zero k)⟩
  · exact fun e he => absurd he (List.not_mem_nil)

/-! ### Group and trigger writes -/

/-- Settles O22: each write by its record's checks, then by the checks on the rest of the state. -/
theorem groupAndTriggerWrites : Obligations.GroupAndTriggerWrites := by
  unfold Obligations.GroupAndTriggerWrites
  intro g i members record d s hs
  rw [exec_tableWrite hs]
  refine ⟨fun hname => ?_, fun hname => ?_⟩
  · have hwrite : s.advance.writeTableCommand = s.advance.writeGroup g := by
      simp [State.writeTableCommand, hname]
    rw [hwrite, State.writeGroup, State.advance_command]
    refine ⟨fun hparse => ?_, fun hparse => ?_⟩
    · simp only [hparse, State.refuseWith_leave]
    · have hbound : s.advance.triggerBound g = s.triggerBound g := rfl
      have hheld : s.advance.requestHeld g = s.requestHeld g := rfl
      simp only [hparse, hbound, hheld, Bool.and_eq_true, List.isEmpty_iff]
      split_ifs
      · rw [State.refuseWith_leave]
      · rw [State.refuseWith_leave]
      · rw [State.accept_leave, State.answered_ok]; rfl
  · have hwrite : s.advance.writeTableCommand = s.advance.writeTrigger i := by
      simp [State.writeTableCommand, hname]
    rw [hwrite, State.writeTrigger, State.advance_command]
    refine ⟨fun hparse => ?_, fun hparse => ?_⟩
    · simp only [hparse, State.refuseWith_leave]
    · simp only [hparse, State.advance_groups, List.isEmpty_iff]
      split_ifs
      · rw [State.refuseWith_leave]
      · rw [State.accept_leave, State.answered_ok]; rfl

/-! ### Arbitration -/

/-- The entries of the members skipped at a grant. -/
theorem State.skipDrafts_grant (slot : Nat) (r : Request) (q : Queues) (l : List (Fin 16)) (s : State) :
    (s.grant slot r q).skipDrafts r 0 l = l.mapIdx fun p e =>
      ({ origin := r.origin, target := .channel e, place := r.group?.map fun g => { group := g, position := p }
         timestamp := s.timebase, kind := .aborted .disabled } : Draft) := by
  simp [State.skipDrafts, State.memberDraft]

/-- Settles O51: arbitration does nothing, or grants the head found, whose first turn passes the disabled members ahead. -/
theorem arbitrationGrantsTheHead : Obligations.ArbitrationGrantsTheHead := by
  unfold Obligations.ArbitrationGrantsTheHead
  intro slot served r q skipped rest c s granted skip drafts
  refine ⟨State.arbitrate_of_not_free, fun h => State.arbitrate_of_search_none (s.search_none_of_empty h),
    fun hfree hsearch htake => ⟨fun hr => ?_, fun hr hskipped => ⟨fun hmembers hc => ?_, fun hmembers => ?_⟩⟩⟩
  · cases r with
    | maintenance m => exact State.arbitrate_calibrates hfree hsearch htake
    | immediate _ | triggered _ | cadence _ => cases hr
  · have hempty : skipped.isEmpty = drafts.isEmpty := by cases skipped <;> simp [drafts]
    rw [State.arbitrate_serves hfree hsearch htake hr,
      State.goOn_starts (s := s.grant slot r q) (r := r) (p := 0) rfl hmembers hskipped hc, State.skipMembers_eq,
      State.skipDrafts_grant]
    rw [hempty, Nat.zero_add]
    rfl
  · have hdrop : (s.grant slot r q).seq.members.drop 0 = skipped := hmembers
    have hempty : skipped.isEmpty = drafts.isEmpty := by cases skipped <;> simp [drafts]
    have hrunning : s.scheduler = .running := (s.free_iff.mp hfree).1
    have hflags : s.ring.endFlags drafts r s.scheduler = fun
        | .aborted => !drafts.isEmpty
        | .immDone => r.isImmediate
        | .ringLoss => s.ring.loses drafts
        | _ => false := by
      funext f; cases f <;> simp [Ring.endFlags, hrunning]
    have hafter : s.scheduler.afterEnd true = s.scheduler := by simp [hrunning, Scheduler.afterEnd]
    have hposition : (if skipped.isEmpty then (s.grant slot r q).seq.position else 0 + (skipped.length - 1)) =
        skipped.length - 1 := by
      cases skipped <;> simp
    have hdrafts : (s.grant slot r q).skipDrafts r 0 skipped = drafts := State.skipDrafts_grant slot r q skipped s
    rw [State.arbitrate_serves hfree hsearch htake hr,
      State.goOn_ends_eq (s := s.grant slot r q) (r := r) (p := 0) rfl hdrop hskipped, hdrafts, hposition,
      State.grant_ring, State.grant_scheduler, hflags, hafter, hempty]
    rfl

end Sys2Proof.Machine
end

section
/-! SUPPORT. Fields that arbitration neither reads nor writes, and the statements on channel writes. -/

namespace Sys2Proof.Machine

/-! ### What arbitration does not read -/

/-- `s` with every field that arbitration neither reads nor writes taken from `u`. -/
def State.beside (u s : State) : State :=
  { s with
    tickSel := u.tickSel
    intervalSel := u.intervalSel
    cadence := u.cadence
    triggers := u.triggers
    refCondition := u.refCondition
    calibration := u.calibration
    monitors := u.monitors
    port := u.port
    command := u.command
    pins := u.pins
    pending := u.pending }

theorem State.skipMembers_beside (u : State) (r : Request) (p : Nat) (l : List (Fin 16)) (s : State) :
    (u.beside s).skipMembers r p l = u.beside (s.skipMembers r p l) := by
  rw [State.skipMembers_eq, State.skipMembers_eq]; rfl

theorem State.endRequest_beside (u : State) (k : Converter) (s : State) :
    (u.beside s).endRequest k = u.beside (s.endRequest k) := by
  rw [State.endRequest_eq, State.endRequest_eq]; rfl

/-- A turn reads and writes none of them where arbitration over no more requests does not. -/
theorem State.goOn_beside_of_arbitrate (u : State) {r : Request} {s : State} (hr : s.seq.current = some r) (p : Nat)
    (harbitrate : ∀ t : State, t.queues.total = s.queues.total → (u.beside t).arbitrate = u.beside t.arbitrate) :
    (u.beside s).goOn p = u.beside (s.goOn p) := by
  obtain hoff | ⟨skipped, c, rest, hlist, hskipped, hc⟩ := s.allDisabled_or_firstEnabled (s.seq.members.drop p)
  · rw [State.goOn_ends hr hoff, State.goOn_ends (s := u.beside s) hr hoff, State.skipMembers_beside,
      State.endRequest_beside]
    refine harbitrate _ ?_
    rw [State.endRequest_eq, State.skipMembers_eq]
    rfl
  · rw [State.goOn_starts hr hlist hskipped hc, State.goOn_starts (s := u.beside s) hr hlist hskipped hc,
      State.skipMembers_beside]
    rfl

/-- Arbitration neither reads nor writes them. -/
theorem State.arbitrate_beside (u s : State) : (u.beside s).arbitrate = u.beside s.arbitrate := by
  induction hn : s.queues.total using Nat.strong_induction_on generalizing s with
  | h n ih =>
    cases hfree : s.free with
    | false => rw [State.arbitrate_of_not_free hfree, State.arbitrate_of_not_free (s := u.beside s) hfree]
    | true =>
      cases hsearch : s.search with
      | none => rw [State.arbitrate_of_search_none hsearch, State.arbitrate_of_search_none (s := u.beside s) hsearch]
      | some found =>
        obtain ⟨slot, c⟩ := found
        obtain ⟨r, q, htake⟩ := Queues.take_of_waiting (State.waiting_of_search hsearch)
        cases hr : r.isCalibration with
        | true =>
          cases r with
          | maintenance m =>
            rw [State.arbitrate_calibrates hfree hsearch htake,
              State.arbitrate_calibrates (s := u.beside s) hfree hsearch htake]
            rfl
          | immediate _ | triggered _ | cadence _ => cases hr
        | false =>
          rw [State.arbitrate_serves hfree hsearch htake hr,
            State.arbitrate_serves (s := u.beside s) hfree hsearch htake hr]
          refine State.goOn_beside_of_arbitrate u (s := s.grant slot r q) rfl 0 fun t ht => ih t.queues.total ?_ t rfl
          rw [ht, ← hn, Queues.total_of_take htake]
          exact Nat.lt_succ_self _

theorem State.ServesOnly.channels_eq {s t : State} (h : s.ServesOnly t) : t.channels = s.channels := by
  have k := congrArg State.channels h
  exact k

theorem State.ServesOnly.monitors_eq {s t : State} (h : s.ServesOnly t) : t.monitors = s.monitors := by
  have k := congrArg State.monitors h
  exact k

theorem State.ServesOnly.command_eq {s t : State} (h : s.ServesOnly t) : t.command = s.command := by
  have k := congrArg State.command h
  exact k

/-- Monitor records and a command block put after an arbitration might have been put before it. -/
theorem State.arbitrate_recorded (v : Vector MonitorRecord 16) (b : CommandBlock) (s : State) :
    ({ s with monitors := v, command := b } : State).arbitrate =
      ({ s.arbitrate with monitors := v, command := b } : State) := by
  have hbeside := State.arbitrate_beside ({ s with monitors := v, command := b } : State) s
  have hserves := s.arbitrate_servesOnly
  unfold State.ServesOnly at hserves
  refine hbeside.trans ?_
  rw [hserves]
  rfl

/-! ### The stages of a channel write -/

section
variable {s : State}

/-- A channel write, taken to its record's checks. -/
theorem exec_tableWrite_channel (h : s.takesByteAt 0x14) {i : Fin 16}
    (hname : recordOf s.command.args[0] s.command.args[1] = some (.channel i)) :
    exec .tableWrite s = .next ((s.advance.writeChannel i).leave 0x21) := by
  have hwrite : s.advance.writeTableCommand = s.advance.writeChannel i := by simp [State.writeTableCommand, hname]
  rw [exec_tableWrite h, hwrite]

/-- An accepted channel write: the stages of the store, and the answer. -/
theorem exec_tableWrite_channel_ok (h : s.takesByteAt 0x14) {i : Fin 16} {new : ChannelRecord}
    (hname : recordOf s.command.args[0] s.command.args[1] = some (.channel i))
    (hparse : parseChannel s.command.staging = .ok new) :
    exec .tableWrite s = .next
      { s.advance.storeChannel i new with
        command := { (s.advance.storeChannel i new).command with result := .ok, detail := .none, echo := 0x21 } } := by
  rw [exec_tableWrite_channel h hname, State.writeChannel, State.advance_command, hparse]
  exact congrArg _ (State.accept_leave _ _)

/-- The evaluation reads the channels and the monitor records alone. -/
theorem State.evaluated_congr {t : State} (i : Fin 16) (hc : t.channels = s.channels) (hm : t.monitors = s.monitors) :
    t.evaluated i = s.evaluated i := by
  cases s; cases t
  dsimp only at hc hm
  subst hc hm
  rfl

/-- An evaluation and an OK answer after an arbitration might have come before it. -/
theorem State.arbitrate_evaluated_answered (i : Fin 16) (code : Byte) (s : State) :
    ({ s.arbitrate.evaluate i with
        command := { (s.arbitrate.evaluate i).command with result := .ok, detail := .none, echo := code } } : State) =
      ({ s with
        monitors := s.evaluated i
        command := { s.command with result := .ok, detail := .none, echo := code } } : State).arbitrate := by
  have hserves := s.arbitrate_servesOnly
  rw [State.evaluate_eq, State.evaluated_congr (s := s) i hserves.channels_eq hserves.monitors_eq]
  simp only [hserves.command_eq]
  exact (State.arbitrate_recorded _ _ _).symm

/-- Out of STARTING, the scheduler accepts demands unless it is STOPPED. -/
theorem Scheduler.accepts_iff {k : Scheduler} (h : k ≠ .starting) : k.accepts = true ↔ k ≠ .stopped := by
  cases k <;> simp_all [Scheduler.accepts]

/-! ### The cadence stage -/

/-- The records ask for the same cadence (R10, R11). -/
def ChannelRecord.sameCadence (old new : ChannelRecord) : Bool :=
  old.cadenced && old.period == new.period && old.offset == new.offset

/-- The cadence records after the write of `new` to channel `i`, from the record `old` before it (R10, R11, R43). -/
def State.recadenced (i : Fin 16) (old new : ChannelRecord) (s : State) : Vector Cadence 16 :=
  if s.scheduler.accepts then
    s.cadence.set i
      (if new.cadenced then
        if old.sameCadence new then s.cadence[i]
        else { armed := true, countdown := if new.offset = 0 then new.period else new.offset }
      else if old.cadenced then { armed := false, countdown := 0 } else s.cadence[i])
  else s.cadence

/-- The cadence stage by the scheduler and the two records. -/
theorem State.recadence_eq (i : Fin 16) (old : ChannelRecord) (s : State) :
    s.recadence i old =
      if s.scheduler.accepts then
        if (s.channels[i]).cadenced then if old.sameCadence s.channels[i] then s else s.arm i
        else if old.cadenced then s.disarm i else s
      else s := by
  unfold State.recadence
  cases s.scheduler.accepts <;> simp [ChannelRecord.sameCadence, and_assoc]

/-- An expiry loads the period of its channel. -/
theorem State.expire_cadence (c : Fin 16) (s : State) :
    (s.expire c).cadence = s.cadence.set c { s.cadence[c] with countdown := (s.channels[c]).period } :=
  congrArg State.cadence (s.expire_frame c)

theorem State.expire_channels (c : Fin 16) (s : State) : (s.expire c).channels = s.channels := by
  have k := congrArg State.channels (s.expire_frame c)
  exact k

/-- An armed channel counts from its offset, or, having expired at once, from its period. -/
theorem State.arm_cadence (c : Fin 16) (s : State) :
    (s.arm c).cadence = s.cadence.set c
      { armed := true
        countdown := if (s.channels[c]).offset = 0 then (s.channels[c]).period else (s.channels[c]).offset } := by
  unfold State.arm
  split
  · next h => rw [State.expire_cadence]; simp
  · rfl

theorem State.arm_channels (c : Fin 16) (s : State) : (s.arm c).channels = s.channels := by
  unfold State.arm
  split
  · rw [State.expire_channels]
  · rfl

theorem State.recadence_channels (i : Fin 16) (old : ChannelRecord) (s : State) :
    (s.recadence i old).channels = s.channels := by
  rw [State.recadence_eq]
  split_ifs
  · rfl
  · exact s.arm_channels i
  · rfl
  · rfl
  · rfl

theorem State.recadence_cadence (i : Fin 16) (old : ChannelRecord) (s : State) :
    (s.recadence i old).cadence = s.recadenced i old s.channels[i] := by
  rw [State.recadence_eq, State.recadenced]
  cases s.scheduler.accepts with
  | false => rfl
  | true =>
    cases (s.channels[i]).cadenced with
    | true =>
      cases old.sameCadence s.channels[i] with
      | true => simp
      | false => exact s.arm_cadence i
    | false =>
      cases old.cadenced with
      | true => rfl
      | false => simp

/-- Where nothing expires, the cadence stage changes the cadence of its channel alone. -/
theorem State.recadence_quiet (i : Fin 16) (old : ChannelRecord) (s : State)
    (hquiet : s.scheduler.accepts = false ∨ (s.channels[i]).cadenced = false ∨ old.sameCadence s.channels[i] = true
      ∨ (s.channels[i]).offset ≠ 0) :
    s.recadence i old = { s with cadence := s.recadenced i old s.channels[i] } := by
  rw [← State.recadence_cadence, State.recadence_eq]
  split_ifs with haccepts hcadenced hsame
  · rfl
  · have hoffset : (s.channels[i]).offset ≠ 0 := by simp_all
    simp only [State.arm, if_neg hoffset]
  · rfl
  · rfl
  · rfl

end
end Sys2Proof.Machine
end

section
/-! SUPPORT. The disable stage of a channel write, and the statements on channel writes. -/

namespace Sys2Proof.Machine

/-! ### The disable stage -/

/-- The member in flight is of channel `i` (R8, R83). -/
def State.flying (i : Fin 16) (s : State) : Bool :=
  s.seq.current.isSome && s.seq.converter.inFlight && decide (s.seq.members[s.seq.position]? = some i)

/-- The member at the position is the request's last (R83). -/
def Sequencer.atLast (q : Sequencer) : Bool := decide (q.members.length ≤ q.position + 1)

/-- The sequencer after the member in flight is aborted: the request ended, or at its next position (R83). -/
def Sequencer.cut (q : Sequencer) : Sequencer :=
  if q.atLast then q.ended .recovering
  else { q with converter := .recovering, snapshot := none, position := q.position + 1 }

/-- The entry of the member in flight of channel `i`, if it is of that channel (R8, R80). -/
def State.cutDrafts (i : Fin 16) (s : State) : List Draft :=
  if s.flying i then s.seq.current.toList.map fun r => s.memberDraft .disabled r i s.seq.position else []

/-- Only a channel's member in flight is aborted by its disable. -/
theorem State.abortDisabled_of_not_flying {i : Fin 16} {s : State} (h : s.flying i = false) : s.abortDisabled i = s := by
  unfold State.abortDisabled
  split
  · rfl
  · next r hr =>
    refine if_neg fun ⟨hconverter, hmember⟩ => ?_
    simp [State.flying, hr, hconverter, hmember] at h

/-- All that the abort of a channel's member in flight does. -/
theorem State.abortDisabled_of_flying {i : Fin 16} {s : State} (h : s.flying i = true) :
    s.abortDisabled i =
      { s with
        scheduler := s.scheduler.afterEnd s.seq.atLast
        seq := s.seq.cut
        ring := s.ring.handAll (s.cutDrafts i)
        alerts := s.alerts.also fun f => s.ring.abortFlags (s.cutDrafts i) f
          || s.seq.atLast && (s.seq.holdsImmediate && decide (f = .immDone)
            || decide (s.scheduler = .pausing) && decide (f = .runChange)) } := by
  have hdrafts : s.cutDrafts i = s.seq.current.toList.map fun r => s.memberDraft .disabled r i s.seq.position :=
    if_pos h
  simp only [State.flying, Bool.and_eq_true, decide_eq_true_eq] at h
  obtain ⟨⟨hcurrent, hconverter⟩, hmember⟩ := h
  obtain ⟨r, hr⟩ := Option.isSome_iff_exists.mp hcurrent
  have hone : s.cutDrafts i = [s.memberDraft .disabled r i s.seq.position] := by simp [hdrafts, hr]
  have hentry : s.produceAborted (s.memberDraft .disabled r i s.seq.position) = s.abortEntries (s.cutDrafts i) := by
    rw [hone, State.abortEntries_cons, State.abortEntries_nil]
  unfold State.abortDisabled
  simp only [hr, hconverter, hmember, true_and, if_true]
  rw [hentry]
  unfold Sequencer.cut
  cases hlast : s.seq.atLast with
  | true =>
    have hno : ¬ s.seq.position + 1 < s.seq.members.length := by simpa [Sequencer.atLast] using hlast
    rw [if_neg hno, State.endRequest_eq]
    simp only [State.abortEntries, Alerts.also_also, Bool.true_and, if_true]
    rfl
  | false =>
    have hmore : s.seq.position + 1 < s.seq.members.length := by simpa [Sequencer.atLast] using hlast
    rw [if_pos hmore]
    simp [State.abortEntries, Scheduler.afterEnd]

/-- The IMMEDIATE requests for channel `i` alone, oldest first (R7). -/
def Queues.immediateFor (i : Fin 16) (q : Queues) : List ImmRequest :=
  q.immediate.filter fun r => decide (r.target = .channel i)

/-- The entry of a request for channel `i` withdrawn at `now` (R7, R32). -/
def goneDraft (i : Fin 16) (now : Word32) (r : ImmRequest) : Draft :=
  { origin := .immediate r.tag, target := .channel i, place := none, timestamp := now, kind := .aborted .disabled }

/-- All that the withdrawal of a channel's requests does. -/
theorem State.withdrawChannel_eq (i : Fin 16) (s : State) :
    s.withdrawChannel i =
      { s with
        queues := { s.queues with
          immediate := s.queues.immediate.filter fun r => decide (r.target ≠ .channel i)
          cadence := s.queues.cadence.filter fun r => decide (r.target ≠ i) }
        ring := s.ring.handAll ((s.queues.immediateFor i).map (goneDraft i s.timebase))
        alerts := s.alerts.also fun f => s.ring.abortFlags ((s.queues.immediateFor i).map (goneDraft i s.timebase)) f
          || !(s.queues.immediateFor i).isEmpty && decide (f = .immDone) } := by
  unfold State.withdrawChannel
  have hdrafts (t : State) (ht : t.timebase = s.timebase) :
      (s.queues.immediateFor i).filterMap (t.withdrawnDraft .disabled) =
        (s.queues.immediateFor i).map (goneDraft i s.timebase) := by
    rw [← List.filterMap_eq_map]
    refine List.filterMap_congr fun r hr => ?_
    obtain ⟨target, tag⟩ := r
    obtain ⟨-, rfl⟩ : _ ∧ target = .channel i := by simpa [Queues.immediateFor] using hr
    simp [State.withdrawnDraft, goneDraft, ht]
  rw [State.foldl_withdraw]
  have hnot : (fun r : ImmRequest => !decide (r.target = .channel i)) = fun r => decide (r.target ≠ .channel i) := by
    funext r; simp
  rw [← hdrafts _ rfl, hnot]
  rfl

/-- The flags of a channel's disable (R7, R8, R83). -/
def State.disableFlags (i : Fin 16) (s : State) : Flag → Bool
  | .aborted => !(s.cutDrafts i ++ (s.queues.immediateFor i).map (goneDraft i s.timebase)).isEmpty
  | .immDone => s.flying i && s.seq.atLast && s.seq.holdsImmediate || !(s.queues.immediateFor i).isEmpty
  | .ringLoss => s.ring.loses (s.cutDrafts i ++ (s.queues.immediateFor i).map (goneDraft i s.timebase))
  | .runChange => s.flying i && s.seq.atLast && decide (s.scheduler = .pausing)
  | _ => false

/-- All that the disable stage does. -/
theorem State.disable_eq (i : Fin 16) (s : State) :
    (s.abortDisabled i).withdrawChannel i =
      { s with
        scheduler := s.scheduler.afterEnd (s.flying i && s.seq.atLast)
        seq := if s.flying i then s.seq.cut else s.seq
        queues := { s.queues with
          immediate := s.queues.immediate.filter fun r => decide (r.target ≠ .channel i)
          cadence := s.queues.cadence.filter fun r => decide (r.target ≠ i) }
        ring := s.ring.handAll (s.cutDrafts i ++ (s.queues.immediateFor i).map (goneDraft i s.timebase))
        alerts := s.alerts.also (s.disableFlags i) } := by
  cases hflying : s.flying i with
  | false =>
    have hcut : s.cutDrafts i = [] := by simp [State.cutDrafts, hflying]
    rw [State.abortDisabled_of_not_flying hflying, State.withdrawChannel_eq, hcut]
    rw [Alerts.also_congr (g := s.disableFlags i)]
    · simp [Scheduler.afterEnd]
    · intro f; cases f <;> simp [State.disableFlags, Ring.abortFlags, hflying, hcut]
  | true =>
    rw [State.abortDisabled_of_flying hflying, State.withdrawChannel_eq]
    simp only [Alerts.also_also, Ring.handAll_append, Bool.true_and, if_true]
    rw [Alerts.also_congr (g := s.disableFlags i)]
    intro f
    cases f with
    | aborted =>
      simp only [State.disableFlags, Ring.abortFlags]
      cases s.cutDrafts i <;> simp
    | ringLoss | immDone | cadOverrun | trgOverrun | calDone | calFail | refFault | cmdError | runChange =>
      simp [State.disableFlags, Ring.abortFlags, Ring.loses_append, hflying]

end Sys2Proof.Machine
end

section
/-! SUPPORT. The statements on channel writes. -/

namespace Sys2Proof.Machine

section
variable {s : State}

/-- The record stored and the cadence stage of a write that disables nothing, before the evaluation. -/
theorem State.storeChannel_of_not_disable {i : Fin 16} {new : ChannelRecord}
    (h : (s.channels[i]).enabled = true → new.enabled = true) :
    s.storeChannel i new =
      (({ s with channels := s.channels.set i new } : State).recadence i s.channels[i]).evaluate i := by
  have hno : ((s.channels[i]).enabled && !new.enabled) = false := by
    cases he : (s.channels[i]).enabled with
    | false => rfl
    | true => simp [h he]
  unfold State.storeChannel
  simp only [hno, Bool.false_eq_true, if_false]

/-- Two records that are cadenced alike ask for the same cadence. -/
theorem ChannelRecord.sameCadence_of_eq {old new : ChannelRecord} (hold : old.cadenced = true)
    (hperiod : new.period = old.period) (hoffset : new.offset = old.offset) : old.sameCadence new = true := by
  simp [ChannelRecord.sameCadence, hold, hperiod, hoffset]

/-- A write that does not reach the cadence leaves every cadence record. -/
theorem State.recadenced_unreached {i : Fin 16} {old new : ChannelRecord}
    (h : s.scheduler.accepts = false ∨ new.cadenced = old.cadenced ∧
      (new.cadenced = true → new.period = old.period ∧ new.offset = old.offset)) :
    s.recadenced i old new = s.cadence := by
  unfold State.recadenced
  obtain hstopped | ⟨hcadenced, hfields⟩ := h
  · simp [hstopped]
  · cases hn : new.cadenced with
    | false => simp [← hcadenced, hn]
    | true =>
      obtain ⟨hperiod, hoffset⟩ := hfields hn
      simp [ChannelRecord.sameCadence_of_eq (hcadenced ▸ hn) hperiod hoffset]

/-- A write that disables nothing and brings about no expiry. -/
theorem exec_channelWrite_quiet (hs : s.takesByteAt 0x14) {i : Fin 16} {new : ChannelRecord}
    (hname : recordOf s.command.args[0] s.command.args[1] = some (.channel i))
    (hparse : parseChannel s.command.staging = .ok new) (hkeeps : (s.channels[i]).enabled = true → new.enabled = true)
    (hquiet : s.scheduler.accepts = false ∨ new.cadenced = false ∨ (s.channels[i]).sameCadence new = true
      ∨ new.offset ≠ 0) :
    exec .tableWrite s = .next
      { ({ s with channels := s.channels.set i new } : State).answered 0x21 .ok .none with
        monitors := ({ s with channels := s.channels.set i new } : State).evaluated i
        cadence := s.recadenced i s.channels[i] new } := by
  have hnew : ({ s.advance with channels := s.advance.channels.set i new } : State).channels[i] = new := by simp
  rw [exec_tableWrite_channel_ok hs hname hparse, State.storeChannel_of_not_disable (s := s.advance) hkeeps,
    State.recadence_quiet _ _ _ (by rw [hnew]; exact hquiet), hnew, State.evaluate_eq, State.answered_ok]
  rfl

/-- Settles O18: where the cadence is not reached, the cadence stage leaves every cadence record. -/
theorem channelWriteStoresTheRecord : Obligations.ChannelWriteStoresTheRecord := by
  unfold Obligations.ChannelWriteStoresTheRecord
  intro i new d s hs hname old stored
  refine ⟨fun hparse hkeeps hreach => ?_, fun hparse => ?_⟩
  · have hstopped : s.scheduler = .stopped → s.scheduler.accepts = false := fun h => by rw [h]; rfl
    have hquiet : s.scheduler.accepts = false ∨ new.cadenced = false ∨ old.sameCadence new = true ∨ new.offset ≠ 0 := by
      refine hreach.imp hstopped fun ⟨hcadenced, hfields⟩ => ?_
      cases hn : new.cadenced with
      | false => exact .inl rfl
      | true =>
        obtain ⟨hperiod, hoffset⟩ := hfields hn
        exact .inr (.inl (ChannelRecord.sameCadence_of_eq (hcadenced ▸ hn) hperiod hoffset))
    rw [exec_channelWrite_quiet hs hname hparse hkeeps hquiet, State.recadenced_unreached (hreach.imp_left hstopped)]
    rfl
  · rw [exec_tableWrite_channel hs hname, State.writeChannel, State.advance_command, hparse]
    exact congrArg _ (State.refuseWith_leave _ _ _ _)

/-- A cadence stage after a change that keeps the cadences and whether the scheduler accepts demands. -/
theorem State.recadenced_congr {t : State} (i : Fin 16) (old new : ChannelRecord) (hc : t.cadence = s.cadence)
    (ha : t.scheduler.accepts = s.scheduler.accepts) : t.recadenced i old new = s.recadenced i old new := by
  simp only [State.recadenced, hc, ha]

/-- The end of a request does not change whether the scheduler accepts demands. -/
@[simp] theorem Scheduler.afterEnd_accepts (b : Bool) (k : Scheduler) : (k.afterEnd b).accepts = k.accepts := by
  cases b <;> cases k <;> rfl

/-- What a write that disables leaves before the evaluation: the disable stage, then the cadence disarmed. -/
theorem State.storeChannel_of_disable {i : Fin 16} {new : ChannelRecord} (hold : (s.channels[i]).enabled = true)
    (hnew : new.enabled = false) :
    s.storeChannel i new =
      (({ (({ s with channels := s.channels.set i new } : State).abortDisabled i).withdrawChannel i with
        cadence := s.recadenced i s.channels[i] new } : State)).evaluate i := by
  have hcadenced : new.cadenced = false := by simp [ChannelRecord.cadenced, hnew]
  have hdisable := State.disable_eq i ({ s with channels := s.channels.set i new } : State)
  unfold State.storeChannel
  simp only [hold, hnew, Bool.not_false, Bool.and_self, if_true]
  generalize (({ s with channels := s.channels.set i new } : State).abortDisabled i).withdrawChannel i = u at hdisable ⊢
  have hrecord : u.channels[i] = new := by simp [hdisable]
  have hcadence : u.cadence = s.cadence := by rw [hdisable]
  have haccepts : u.scheduler.accepts = s.scheduler.accepts := by rw [hdisable, Scheduler.afterEnd_accepts]
  rw [State.recadence_quiet i _ u (.inr (.inl (by rw [hrecord]; exact hcadenced))), hrecord,
    State.recadenced_congr i _ _ hcadence haccepts]

/-- A channel write leaves the record and the cadence of its channel, whatever else it does. -/
theorem State.storeChannel_channels_cadence (i : Fin 16) (new : ChannelRecord) (s : State) :
    (s.storeChannel i new).channels = s.channels.set i new
      ∧ (s.storeChannel i new).cadence = s.recadenced i s.channels[i] new := by
  by_cases hkeeps : (s.channels[i]).enabled = true → new.enabled = true
  · rw [State.storeChannel_of_not_disable hkeeps, State.evaluate_eq]
    refine ⟨State.recadence_channels _ _ _, (State.recadence_cadence _ _ _).trans ?_⟩
    simp only [Fin.getElem_fin, Vector.getElem_set_self]
    rfl
  · obtain ⟨hold, hnew⟩ : (s.channels[i]).enabled = true ∧ new.enabled = false := by simpa using hkeeps
    rw [State.storeChannel_of_disable hold hnew, State.evaluate_eq, State.disable_eq]
    exact ⟨rfl, rfl⟩

/-- Settles O19: the cadence stage of a write that disables, arms, disarms or keeps, and, where nothing expires, its whole
effect. -/
theorem channelWriteGovernsTheCadence : Obligations.ChannelWriteGovernsTheCadence := by
  unfold Obligations.ChannelWriteGovernsTheCadence
  intro i new s hs hname hparse old same stored cadence
  have haccepts := Scheduler.accepts_iff hs.2
  have hcadence : cadence = s.recadenced i old new := by
    by_cases hstopped : s.scheduler = .stopped
    · simp [cadence, State.recadenced, hstopped, Scheduler.accepts]
    · have ha := haccepts.mpr hstopped
      simp only [cadence, State.recadenced, ha, hstopped, if_true, if_false]
      rfl
  refine ⟨?_, fun hkeeps hquiet => ?_⟩
  · obtain ⟨hchannels, hstored⟩ := s.advance.storeChannel_channels_cadence i new
    rw [hcadence]
    exact ⟨_, exec_tableWrite_channel_ok hs hname hparse, hchannels, hstored⟩
  · rw [hcadence]
    refine exec_channelWrite_quiet hs hname hparse hkeeps (hquiet.imp_left fun h => ?_)
    rw [h]; rfl

/-! ### A CADENCE demand, by its three outcomes (R26) -/

theorem State.postCadence_dropped {c : Fin 16} (h : s.active .cadence = false) :
    s.postCadence c = { s with alerts := s.alerts.also fun f => decide (f = .cadOverrun) } := by
  simp [State.postCadence, h, State.raise_eq]

theorem State.postCadence_coalesced {c : Fin 16} (h : s.active .cadence = true)
    (hpending : pendingFor c s.queues.cadence = true) :
    s.postCadence c =
      { s with
        queues := { s.queues with cadence := mergeInto c s.queues.cadence }
        alerts := s.alerts.also fun f => decide (f = .cadOverrun) } := by
  simp [State.postCadence, h, hpending, State.raise_eq]

theorem State.postCadence_queued {c : Fin 16} (h : s.active .cadence = true)
    (hpending : pendingFor c s.queues.cadence = false) :
    s.postCadence c =
      ({ s with queues := { s.queues with cadence := s.queues.cadence ++ [Merged.fresh c] } } : State).arbitrate := by
  simp [State.postCadence, h, hpending]

/-- A channel armed at offset 0 counts from its period and hands on one demand. -/
theorem State.arm_expires {c : Fin 16} (h : (s.channels[c]).offset = 0) :
    s.arm c =
      ({ s with cadence := s.cadence.set c { armed := true, countdown := (s.channels[c]).period } } : State).postCadence c := by
  unfold State.arm
  rw [if_pos h]
  simp [State.expire]

/-- A write that arms or re-arms its channel at offset 0: the demand of the state that the write has stored, then the
evaluation. -/
theorem State.storeChannel_expires {i : Fin 16} {new : ChannelRecord} (haccepts : s.scheduler.accepts = true)
    (hcadenced : new.cadenced = true) (hoffset : new.offset = 0)
    (hdiffers : (s.channels[i]).sameCadence new = false) :
    s.storeChannel i new =
      ((({ s with
        channels := s.channels.set i new
        cadence := s.cadence.set i { armed := true, countdown := new.period } } : State).postCadence i).evaluate i) := by
  have henabled : new.enabled = true := by
    simp only [ChannelRecord.cadenced, Bool.and_eq_true] at hcadenced
    exact hcadenced.1
  rw [State.storeChannel_of_not_disable fun _ => henabled, State.recadence_eq]
  have hrecord : ({ s with channels := s.channels.set i new } : State).channels[i] = new := by simp
  rw [hrecord, if_pos haccepts, if_pos hcadenced, hdiffers, if_neg Bool.false_ne_true,
    State.arm_expires (by rw [hrecord]; exact hoffset), hrecord]

/-- Settles O20: the demand that the write posts, by its three outcomes. -/
theorem channelWriteAtOffsetZeroExpires : Obligations.ChannelWriteAtOffsetZeroExpires := by
  unfold Obligations.ChannelWriteAtOffsetZeroExpires
  intro i new s hs hname hparse hstopped hcadenced hoffset hdiffers stored loaded flagged
  have hdiffers' : (s.channels[i]).sameCadence new = false := by
    by_contra hsame
    simp only [ChannelRecord.sameCadence, Bool.not_eq_false, Bool.and_eq_true, beq_iff_eq] at hsame
    obtain ⟨⟨hold, hperiod⟩, hoff⟩ := hsame
    exact (hdiffers hold).elim (· hperiod) (· hoff)
  rw [exec_tableWrite_channel_ok hs hname hparse, State.storeChannel_expires (s := s.advance)
    ((Scheduler.accepts_iff hs.2).mpr hstopped) hcadenced hoffset hdiffers']
  have hflags : (fun f => decide (f = Flag.cadOverrun)) = fun | .cadOverrun => true | _ => false := by
    funext f; cases f <;> rfl
  refine ⟨fun hactive => ?_, fun hactive hpending => ?_, fun hactive hpending => ?_⟩
  · rw [State.postCadence_dropped (by exact hactive), hflags, State.evaluate_eq]
    simp only [flagged, loaded, State.answered_ok]
    rfl
  · rw [State.postCadence_coalesced (by exact hactive) (by exact hpending), hflags, State.evaluate_eq]
    simp only [flagged, loaded, State.answered_ok]
    rfl
  · rw [State.postCadence_queued (by exact hactive) (by exact hpending)]
    refine congrArg _ ((State.arbitrate_evaluated_answered i 0x21 _).trans ?_)
    simp only [loaded, State.answered_ok]
    rfl

/-- A record that asks for no cadence disarms its channel where it was armed. -/
theorem State.recadenced_of_not_cadenced {i : Fin 16} {old new : ChannelRecord} (hs : s.scheduler ≠ .starting)
    (hnew : new.cadenced = false) :
    s.recadenced i old new =
      if s.scheduler ≠ .stopped ∧ old.cadenced then s.cadence.set i { armed := false, countdown := 0 } else s.cadence := by
  have haccepts := Scheduler.accepts_iff hs
  unfold State.recadenced
  cases old.cadenced <;> by_cases hstopped : s.scheduler = .stopped <;> simp_all

/-- Settles O21: the disable stage, then the cadence disarmed, then the evaluation of the record stored. -/
theorem disableWithdrawsTheChannel : Obligations.DisableWithdrawsTheChannel := by
  unfold Obligations.DisableWithdrawsTheChannel
  intro i new s hs hname hparse hold hnew stored flying last mine cut gone drafts
  have hcadenced : new.cadenced = false := by simp [ChannelRecord.cadenced, hnew]
  have hcadence : s.advance.recadenced i s.advance.channels[i] new =
      if s.scheduler ≠ .stopped ∧ (s.channels[i]).cadenced then s.cadence.set i { armed := false, countdown := 0 }
      else s.cadence := State.recadenced_of_not_cadenced (s := s.advance) hs.2 hcadenced
  rw [exec_tableWrite_channel_ok hs hname hparse, State.storeChannel_of_disable (s := s.advance) hold hnew,
    State.evaluate_eq, State.evaluated_congr (s := stored) i (by rw [State.disable_eq]; rfl) (by rw [State.disable_eq]; rfl),
    hcadence, State.disable_eq, State.answered_ok]
  rfl

end
end Sys2Proof.Machine
end

section
/-! SUPPORT. The checks of the staged bytes in their orders, and the records that pass them. -/

namespace Sys2Proof.Machine

/-! ### A table's checks, one at a time -/

/-- The first check fails. -/
theorem checksDecide_fails {α : Type} {b : Bool} {d : DetailCode} {cs : List (Bool × DetailCode)}
    {stored : α → Prop} (hb : b = true) : ChecksDecide ((b, d) :: cs) (.error d) stored := by
  simp [ChecksDecide, hb]

/-- The first check passes, and the others decide. -/
theorem checksDecide_passes {α : Type} {b : Bool} {d : DetailCode} {cs : List (Bool × DetailCode)}
    {answer : Except DetailCode α} {stored : α → Prop} (hb : b = false) (h : ChecksDecide cs answer stored) :
    ChecksDecide ((b, d) :: cs) answer stored := by
  simpa [ChecksDecide, hb] using h

/-- A check made by a condition. -/
theorem checksDecide_ite {α : Type} {b : Bool} {c : Prop} [Decidable c] {d : DetailCode}
    {cs : List (Bool × DetailCode)} {answer : Except DetailCode α} {stored : α → Prop} (hb : b = true ↔ c)
    (h : ¬ c → ChecksDecide cs answer stored) : ChecksDecide ((b, d) :: cs) (if c then .error d else answer) stored := by
  split
  · next hc => exact checksDecide_fails (hb.mpr hc)
  · next hc => exact checksDecide_passes (by simpa using fun hn => hc (hb.mp hn)) (h hc)

/-- No check is left. -/
theorem checksDecide_accepts {α : Type} {r : α} {stored : α → Prop} (h : stored r) :
    ChecksDecide [] (.ok r) stored := ⟨r, rfl, h⟩

/-! ### Codes -/

/-- A byte's number below `n` gives the byte back. -/
theorem ofNat_of_byteFin {n : Nat} {b : Byte} {x : Fin n} (h : byteFin n b = some x) : BitVec.ofNat 8 x.val = b := by
  rw [byteFin_eq_some] at h
  simp [h]

/-- The numbers of the bytes give the bytes back. -/
theorem map_ofNat_of_toNat {n : Nat} {m : List (Fin n)} {l : List Byte} (h : m.map Fin.val = l.map BitVec.toNat) :
    m.map (fun c => BitVec.ofNat 8 c.val) = l := by
  have := congrArg (List.map (BitVec.ofNat 8)) h
  simpa [Function.comp_def] using this

theorem negInputOf_eq_none {b : Byte} : negInputOf b = none ↔ 16 < b.toNat := by
  unfold negInputOf
  split
  · next h => simp [h]
  · next h =>
    rw [Option.map_eq_none_iff, byteFin_eq_none]
    bv_omega

/-- The number of a negative input: its pin's, or 16 for COMMON (R2). -/
def NegInput.number : NegInput → Nat
  | .ain pin => pin.val
  | .common => 16

/-- The number of a negative input is its code. -/
theorem negInputOf_eq_some {b : Byte} {n : NegInput} (h : negInputOf b = some n) :
    n.code = b ∧ n.number = b.toNat := by
  unfold negInputOf at h
  split at h
  · next hb => cases h; simp [NegInput.code, NegInput.number, hb]
  · obtain ⟨pin, hpin, rfl⟩ := Option.map_eq_some_iff.mp h
    rw [byteFin_eq_some] at hpin
    simp [NegInput.code, NegInput.number, hpin]

/-- A negative input is the positive one's pin exactly when their bytes are the same. -/
theorem negInputOf_eq_ain {p : Fin 16} {n : NegInput} {bp bn : Byte} (hp : byteFin 16 bp = some p)
    (hn : negInputOf bn = some n) : n = .ain p ↔ bp = bn := by
  have hp' := ofNat_of_byteFin hp
  have hlt := p.isLt
  obtain ⟨hcode, hnumber⟩ := negInputOf_eq_some hn
  rw [byteFin_eq_some] at hp
  cases n with
  | common => simp only [reduceCtorEq, false_iff]; intro heq; subst heq; simp [NegInput.number] at hnumber; omega
  | ain pin =>
    simp only [NegInput.ain.injEq, Fin.ext_iff, hp]
    simp only [NegInput.number] at hnumber
    rw [hnumber]
    exact ⟨fun h => (BitVec.eq_of_toNat_eq h).symm, fun h => by rw [h]⟩

/-- The edge codes in their order. -/
theorem edgeOf_eq (b : Byte) : edgeOf b = ([.off, .rising, .falling, .both] : List EdgeSelect)[b.toNat]? := by
  unfold edgeOf
  split_ifs with h0 h1 h2 h3
  · simp [h0]
  · simp [h1]
  · simp [h2]
  · simp [h3]
  · rw [eq_comm, List.getElem?_eq_none_iff]
    simp only [List.length_cons, List.length_nil]
    bv_omega

theorem edgeOf_code {b : Byte} {e : EdgeSelect} (h : edgeOf b = some e) : e.code = b := by
  unfold edgeOf at h
  split_ifs at h <;> cases h <;> simp_all [EdgeSelect.code]

/-- The slot codes in their order. -/
theorem slotOf_eq (b : Byte) :
    slotOf b =
      ([.skip, .serve .immediate, .serve .triggered, .serve .cadence, .serve .maintenance] : List Slot)[b.toNat]? := by
  unfold slotOf
  split_ifs with h0 h1 h2 h3 h4
  · simp [h0]
  · simp [h1]
  · simp [h2]
  · simp [h3]
  · simp [h4]
  · rw [eq_comm, List.getElem?_eq_none_iff]
    simp only [List.length_cons, List.length_nil]
    bv_omega

theorem slotOf_code {b : Byte} {e : Slot} (h : slotOf b = some e) : e.code = b := by
  unfold slotOf at h
  split_ifs at h <;> cases h <;> simp_all [Slot.code]

@[simp] theorem lowByte_word16 (lo hi : Byte) : lowByte (word16 lo hi) = lo :=
  (BitVec.extractLsb'_append_of_lt (k := 1) (w := 8) (i := 0) (x := lo) (y := hi) Nat.zero_lt_one).trans
    BitVec.extractLsb'_eq_self

@[simp] theorem highByte_word16 (lo hi : Byte) : highByte (word16 lo hi) = hi :=
  BitVec.extractLsb'_append_of_eq (k := 1) (w := 8) (i := 1) (x := lo) (y := hi) rfl

/-! ### The first staged bytes -/

theorem staged_take_succ (b : Vector Byte 40) (n : Nat) :
    b.toList.take (n + 1) = b[0] :: (b.toList.drop 1).take n := by
  have hhead : b.toList = b[0] :: b.toList.drop 1 := by
    simpa using List.drop_eq_getElem_cons (l := b.toList) (i := 0) (by simp)
  rw [hhead, List.take_succ_cons]
  rfl

theorem staged_take_four (b : Vector Byte 40) : b.toList.take 4 = [b[0], b[1], b[2], b[3]] := by
  refine List.ext_getElem (by simp) fun k _ hk => ?_
  simp only [List.length_cons, List.length_nil] at hk
  interval_cases k <;> simp

theorem staged_take_eleven (b : Vector Byte 40) :
    b.toList.take 11 = [b[0], b[1], b[2], b[3], b[4], b[5], b[6], b[7], b[8], b[9], b[10]] := by
  refine List.ext_getElem (by simp) fun k _ hk => ?_
  simp only [List.length_cons, List.length_nil] at hk
  interval_cases k <;> simp

/-! ### The four tables -/

/-- The checks of R5 in their order, and the fields and the layout of a record that passes them. -/
theorem parseChannel_checks (b : Vector Byte 40) :
    ChecksDecide
      [(decide (1 < b[0].toNat), .enableCode), (decide (15 < b[1].toNat), .posInput),
        (decide (16 < b[2].toNat), .negInput), (decide (b[1] = b[2]), .sameInput), (decide (3 < b[3].toNat), .gain),
        (decide (b[4] = 0), .settling),
        (decide (word16 b[5] b[6] ≠ 0 ∧ (word16 b[5] b[6]).toNat ≤ (word16 b[7] b[8]).toNat), .offset),
        (decide (32767 < (word16 b[9] b[10]).toNat), .band)]
      (parseChannel b) (fun r => r.Valid ∧ r.bytes = b.toList.take 11
        ∧ r.enabled = decide (b[0] = 0x01) ∧ r.positive.val = b[1].toNat
        ∧ r.negative.number = b[2].toNat
        ∧ r.gain.val = b[3].toNat ∧ r.settling = b[4] ∧ r.period = word16 b[5] b[6] ∧ r.offset = word16 b[7] b[8]
        ∧ r.band = word16 b[9] b[10]) := by
  unfold parseChannel
  dsimp only
  refine checksDecide_ite (by rw [decide_eq_true_iff]; bv_omega) fun henable => ?_
  cases hpositive : byteFin 16 b[1] with
  | none => exact checksDecide_fails (decide_eq_true (byteFin_eq_none.mp hpositive))
  | some positive =>
    have hpositive' := byteFin_eq_some.mp hpositive
    refine checksDecide_passes (by simp; omega) ?_
    cases hnegative : negInputOf b[2] with
    | none => exact checksDecide_fails (by simpa using negInputOf_eq_none.mp hnegative)
    | some negative =>
      obtain ⟨hcode, hnumber⟩ := negInputOf_eq_some hnegative
      refine checksDecide_passes ?_ (checksDecide_ite ?_ fun hsame => ?_)
      · have hsome : negInputOf b[2] ≠ none := by simp [hnegative]
        simpa [negInputOf_eq_none] using hsome
      · rw [decide_eq_true_iff, negInputOf_eq_ain hpositive hnegative]
      cases hgain : byteFin 4 b[3] with
      | none => exact checksDecide_fails (decide_eq_true (byteFin_eq_none.mp hgain))
      | some gain =>
        have hgain' := byteFin_eq_some.mp hgain
        refine checksDecide_passes (by simp; omega) ?_
        refine checksDecide_ite decide_eq_true_iff fun hsettling => ?_
        refine checksDecide_ite (decide_eq_true_iff.trans (and_congr_right fun _ => Nat.not_lt.symm)) fun hoffset => ?_
        refine checksDecide_ite decide_eq_true_iff fun hband => ?_
        refine checksDecide_accepts ⟨⟨hsettling, hsame, fun hp => ?_, Nat.not_lt.mp hband⟩, ?_, rfl, hpositive', hnumber,
          hgain', rfl, rfl, rfl, rfl⟩
        · exact by_contra fun hlt => hoffset ⟨hp, hlt⟩
        · rw [staged_take_eleven]
          have hflag : (if b[0] = 0x01 then 0x01 else 0x00 : Byte) = b[0] := by
            split
            · next h => exact h.symm
            · next h => simp only [ne_eq, not_and, not_not] at henable; bv_omega
          simp only [ChannelRecord.bytes, decide_eq_true_eq, hflag, ofNat_of_byteFin hpositive, hcode,
            ofNat_of_byteFin hgain, lowByte_word16, highByte_word16]

/-- The checks of R14 on the count and the slots in their order, and the list that passes them. -/
theorem parseGroup_checks (b : Vector Byte 40) :
    ChecksDecide
      [(decide (8 < b[0].toNat), .memberCount),
        (((b.toList.drop 1).take b[0].toNat).any fun v => decide (15 < v.toNat), .memberChannel),
        (decide (¬ ((b.toList.drop 1).take b[0].toNat).Nodup), .duplicate)]
      (parseGroup b) (fun l => l.Nodup ∧ groupBytes l = b.toList.take (b[0].toNat + 1)
        ∧ l.map Fin.val = ((b.toList.drop 1).take b[0].toNat).map BitVec.toNat) := by
  unfold parseGroup
  refine checksDecide_ite decide_eq_true_iff fun hcount => ?_
  generalize hbytes : (b.toList.drop 1).take b[0].toNat = bytes
  cases hmembers : bytes.mapM (byteFin 16) with
  | none =>
    refine checksDecide_fails ?_
    obtain ⟨v, hv, hlarge⟩ := mapM_byteFin_eq_none.mp hmembers
    simpa using ⟨v, hv, hlarge⟩
  | some members =>
    have hsmall : ¬ ∃ v ∈ bytes, 16 ≤ v.toNat := fun h => by simp [mapM_byteFin_eq_none.mpr h] at hmembers
    have hvalues := mapM_byteFin_eq_some.mp hmembers
    have hlayout := map_ofNat_of_toNat hvalues
    have hnodup : members.Nodup ↔ bytes.Nodup := by
      have hm : (members.map Fin.val).Nodup ↔ members.Nodup := List.nodup_map_iff Fin.val_injective
      have hb : (bytes.map BitVec.toNat).Nodup ↔ bytes.Nodup := List.nodup_map_iff BitVec.toNat_injective
      rw [← hm, hvalues, hb]
    refine checksDecide_passes (List.any_eq_false.mpr fun v hv h => hsmall ⟨v, hv, of_decide_eq_true h⟩) ?_
    dsimp only
    split
    · next h =>
      refine checksDecide_passes (by simpa using hnodup.mp h) (checksDecide_accepts ⟨h, ?_, hvalues⟩)
      have hlength : members.length = b[0].toNat := by
        have := congrArg List.length hvalues
        simp only [List.length_map, ← hbytes, List.length_take, List.length_drop, Vector.length_toList] at this
        omega
      rw [groupBytes, hlength, hlayout, staged_take_succ, hbytes, BitVec.ofNat_toNat, BitVec.setWidth_eq]
    · next h => exact checksDecide_fails (by simpa using fun hn => h (hnodup.mpr hn))

/-- The checks of R46 on the codes in their order, and the record that passes them. -/
theorem parseTrigger_checks (b : Vector Byte 40) :
    ChecksDecide
      [(decide (3 < b[0].toNat), .edgeCode), (decide (3 < b[1].toNat), .triggerGroup)]
      (parseTrigger b) (fun r => r.bytes = b.toList.take 4
        ∧ ([.off, .rising, .falling, .both] : List EdgeSelect)[b[0].toNat]? = some r.edge
        ∧ r.group.val = b[1].toNat ∧ r.holdoff = word16 b[2] b[3]) := by
  unfold parseTrigger
  cases hedge : edgeOf b[0] with
  | none =>
    refine checksDecide_fails ?_
    rw [edgeOf_eq, List.getElem?_eq_none_iff] at hedge
    exact decide_eq_true hedge
  | some edge =>
    have hcode := edgeOf_code hedge
    rw [edgeOf_eq] at hedge
    obtain ⟨hlt, -⟩ := List.getElem?_eq_some_iff.mp hedge
    simp only [List.length_cons, List.length_nil] at hlt
    refine checksDecide_passes (by simp; omega) ?_
    cases hgroup : byteFin 4 b[1] with
    | none => exact checksDecide_fails (decide_eq_true (byteFin_eq_none.mp hgroup))
    | some group =>
      have hgroup' := byteFin_eq_some.mp hgroup
      refine checksDecide_passes (by simp; omega) (checksDecide_accepts ⟨?_, hedge, hgroup', rfl⟩)
      rw [staged_take_four]
      simp only [TriggerRecord.bytes, hcode, ofNat_of_byteFin hgroup, lowByte_word16, highByte_word16]

theorem slotOf_eq_none {b : Byte} : slotOf b = none ↔ 4 < b.toNat := by
  rw [slotOf_eq, List.getElem?_eq_none_iff]
  rfl

/-- Staged slots decode one by one. -/
theorem parseSlots_eq_some {b : Vector Byte 40} {v : Vector Slot 32} (h : parseSlots b = some v) :
    v.toList.map some = ((b.toList.drop 1).take 32).map slotOf := by
  unfold parseSlots at h
  split at h
  · next hall =>
    rw [← Option.some.inj h]
    refine List.ext_getElem (by simp) fun k hk hk' => ?_
    have hmem := List.getElem_mem (l := (b.toList.drop 1).take 32) (n := k) (by simpa using hk)
    obtain ⟨e, he⟩ := Option.isSome_iff_exists.mp (List.all_eq_true.mp hall _ hmem)
    simp only [List.getElem_take, List.getElem_drop, Vector.getElem_toList, Nat.add_comm 1] at he
    simp [he]
  · cases h

theorem parseSlots_eq_none {b : Vector Byte 40} :
    parseSlots b = none ↔ ∃ v ∈ (b.toList.drop 1).take 32, 4 < v.toNat := by
  unfold parseSlots
  split
  · next hall =>
    simp only [reduceCtorEq, false_iff]
    rintro ⟨v, hv, hlarge⟩
    have := List.all_eq_true.mp hall v hv
    simp [slotOf_eq_none.mpr hlarge] at this
  · next hno =>
    simp only [List.all_eq_true, not_forall, Bool.not_eq_true, Option.isSome_eq_false_iff, Option.isNone_iff_eq_none,
      slotOf_eq_none, exists_prop] at hno
    simpa using hno

/-- Bytes that decode to these slots are their codes. -/
theorem map_code_of_slotOf {l : List Slot} {bytes : List Byte} (h : l.map some = bytes.map slotOf) :
    l.map Slot.code = bytes := by
  induction bytes generalizing l with
  | nil => simpa using h
  | cons v bytes ih =>
    cases l with
    | nil => simp at h
    | cons e l =>
      simp only [List.map_cons, List.cons.injEq] at h ⊢
      exact ⟨slotOf_code h.1.symm, ih h.2⟩

/-- No class is named below the length exactly when every code there is 00h. -/
theorem PhaseBank.namesClass_eq (n : Nat) (v : Vector Slot 32) :
    ((v.toList.map Slot.code).take n).all (fun c => decide (c = 0x00)) =
      !({ length := n, slots := v } : PhaseBank).namesClass := by
  have hskip (e : Slot) : decide (e.code = 0x00) = !decide (e ≠ .skip) := by
    obtain _ | _ | _ | _ | _ := e <;> decide
  rw [PhaseBank.namesClass, ← List.map_take, List.all_map, List.any_eq_not_all_not, Bool.not_not]
  exact congrArg _ (funext hskip)

/-- The checks of R58 in their order, and the bank that passes them. -/
theorem parsePhase_checks (b : Vector Byte 40) :
    ChecksDecide
      [(decide (b[0].toNat = 0 ∨ 32 < b[0].toNat), .length),
        (((b.toList.drop 1).take 32).any fun v => decide (4 < v.toNat), .slotCode),
        ((((b.toList.drop 1).take 32).take b[0].toNat).all fun v => decide (v = 0x00), .noClass)]
      (parsePhase b) (fun p => p.Valid ∧ p.bytes = b.toList.take 33 ∧ p.length = b[0].toNat
        ∧ ((b.toList.drop 1).take 32).map
            (fun v => ([.skip, .serve .immediate, .serve .triggered, .serve .cadence, .serve .maintenance] : List Slot)[v.toNat]?)
          = p.slots.toList.map some) := by
  unfold parsePhase
  refine checksDecide_ite decide_eq_true_iff fun hlength => ?_
  cases hslots : parseSlots b with
  | none =>
    refine checksDecide_fails ?_
    obtain ⟨v, hv, hlarge⟩ := parseSlots_eq_none.mp hslots
    exact List.any_eq_true.mpr ⟨v, hv, decide_eq_true hlarge⟩
  | some slots =>
    have hdecode := parseSlots_eq_some hslots
    have hcodes := map_code_of_slotOf hdecode
    have hsmall : ¬ ∃ v ∈ (b.toList.drop 1).take 32, 4 < v.toNat := fun h => by
      simp [parseSlots_eq_none.mpr h] at hslots
    refine checksDecide_passes (by simpa using hsmall) ?_
    dsimp only
    rw [← hcodes, PhaseBank.namesClass_eq]
    split
    · next hclass =>
      refine checksDecide_passes (by simp [hclass]) (checksDecide_accepts ⟨⟨?_, ?_, hclass⟩, ?_, rfl, ?_⟩)
      · simp; omega
      · simp; omega
      · rw [PhaseBank.bytes, staged_take_succ, hcodes, BitVec.ofNat_toNat, BitVec.setWidth_eq]
      · rw [hdecode, hcodes]
        exact List.map_congr_left fun v _ => (slotOf_eq v).symm
    · next hclass => exact checksDecide_fails (by simpa using hclass)

/-- Settles O24, table by table. -/
theorem stagedRecordChecksInOrder : Obligations.StagedRecordChecksInOrder := by
  unfold Obligations.StagedRecordChecksInOrder
  intro b period offset band count members slots edges classes
  exact ⟨parseChannel_checks b, parseGroup_checks b, parseTrigger_checks b, parsePhase_checks b⟩

end Sys2Proof.Machine
end

section
/-! SUPPORT. What an accepted or a refused command leaves of the state it was carried out on; and the statements on the
commands that post. -/

namespace Sys2Proof.Machine

section
variable {s : State}

/-! ### Answers and arbitration -/

/-- An accepted command without an effect of its own leaves the answered state. -/
theorem State.advance_accept_leave (code : Byte) (s : State) :
    s.advance.accept.leave code = s.answered code .ok .none := by
  rw [State.accept_leave, State.answered_ok]
  rfl

/-- A command refused out of STARTING leaves its answer alone. -/
theorem State.occur_refused (h : s.takesByteAt 0x14) {code : Byte} {f : State → Answer} {r : ResultCode}
    (hf : f s.advance = s.advance.refuse r) :
    s.occur (s.writingAt 0x14) (s.takeCommand code f) = .next (s.answered code r .none) := by
  rw [State.occur_takeCommand h, hf, State.refuse_leave]

/-- An OK answer after an arbitration might have come before it. -/
theorem State.arbitrate_accept_leave (code : Byte) (s : State) :
    s.arbitrate.accept.leave code = (s.accept.leave code).arbitrate := by
  have hserves := s.arbitrate_servesOnly
  have hrecorded := State.arbitrate_recorded s.monitors
    { s.command with result := .ok, detail := .none, echo := code } s
  rw [State.accept_leave, State.accept_leave, hserves.command_eq]
  exact (congrArg (fun v => ({ s.arbitrate with monitors := v, command := _ } : State)) hserves.monitors_eq).trans
    hrecorded.symm

/-- A STOPPED scheduler accepts no demands. -/
theorem Scheduler.not_accepts_of_stopped {k : Scheduler} (h : k = .stopped) : k.accepts = false := by
  rw [h]; rfl

/-! ### POST -/

/-- The target is a group that is not defined (check 2 of R23). -/
def ImmTarget.undefined (s : State) : ImmTarget → Bool
  | .group g => (s.groups[g]).isEmpty
  | .channel _ => false

/-- The target is a channel that is disabled (check 4 of R23). -/
def ImmTarget.disabled (s : State) : ImmTarget → Bool
  | .group _ => false
  | .channel c => !(s.channels[c]).enabled

theorem ImmTarget.undefined_iff (t : ImmTarget) :
    t.undefined s = true ↔ ∃ g : Fin 4, t = .group g ∧ s.groups[g] = [] := by
  cases t <;> simp [ImmTarget.undefined]

theorem ImmTarget.disabled_iff (t : ImmTarget) :
    t.disabled s = true ↔ ∃ c : Fin 16, t = .channel c ∧ (s.channels[c]).enabled = false := by
  cases t <;> simp [ImmTarget.disabled]

/-- POST with a target, in a scheduler state that accepts demands: the checks left, in their order. -/
theorem State.postCommand_eq (haccepts : s.scheduler.accepts = true) {target : ImmTarget}
    (htarget : postTarget s.command.args[0] s.command.args[1] = some target) :
    s.postCommand =
      if target.undefined s then s.refuse .badArg
      else if !s.active .immediate then s.refuse .noPhase
      else if target.disabled s then s.refuse .disabled
      else if 8 ≤ s.queues.immediate.length then s.refuse .full
      else (s.postImmediate { target := target, tag := s.command.args[2] }).accept := by
  unfold State.postCommand
  simp only [haccepts, htarget]
  cases target <;> rfl

theorem State.postCommand_badState (h : s.scheduler.accepts = false) : s.postCommand = s.refuse .badState := by
  simp [State.postCommand, h]

/-- POST with no target, in a scheduler state that accepts demands. -/
theorem State.postCommand_badTarget (haccepts : s.scheduler.accepts = true)
    (htarget : postTarget s.command.args[0] s.command.args[1] = none) : s.postCommand = s.refuse .badArg := by
  unfold State.postCommand
  simp only [haccepts, htarget]
  rfl

/-- POST is refused at the check that answers `r`. -/
theorem exec_post_refused (hs : s.takesByteAt 0x14) {r : ResultCode} (h : s.advance.postCommand = s.advance.refuse r) :
    exec .post s = .next (s.answered 0x10 r .none) :=
  State.occur_refused hs h

/-- Settles O14: the checks in their order, each on the state past CMD. -/
theorem postRefusalsInOrder : Obligations.PostRefusalsInOrder := by
  unfold Obligations.PostRefusalsInOrder
  intro s hs target undefined disabled
  have haccepts := Scheduler.accepts_iff hs.2
  have hpost (t : ImmTarget) (hstopped : s.scheduler ≠ .stopped) (ht : target = some t) :=
    State.postCommand_eq (s := s.advance) (haccepts.mpr hstopped) ht
  have hundefined (t : ImmTarget) (ht : target = some t) : t.undefined s.advance = true ↔ undefined := by
    rw [ImmTarget.undefined_iff]; simp [undefined, ht]
  have hdisabled (t : ImmTarget) (ht : target = some t) : t.disabled s.advance = true ↔ disabled := by
    rw [ImmTarget.disabled_iff]; simp [disabled, ht]
  have hactive : s.advance.active .immediate = s.active .immediate := rfl
  refine ⟨fun hstopped => ?_, fun hstopped hbad => ?_, fun hstopped hsome hdefined hphase => ?_,
    fun hstopped hphase hoff => ?_, fun hstopped hsome hdefined hphase hon hfull => ?_⟩ <;>
    refine exec_post_refused hs ?_
  · exact State.postCommand_badState (Scheduler.not_accepts_of_stopped hstopped)
  · cases ht : target with
    | none => exact State.postCommand_badTarget (s := s.advance) (haccepts.mpr hstopped) ht
    | some t =>
      have hundef : undefined := hbad.resolve_left (by simp [ht])
      rw [hpost t hstopped ht, if_pos ((hundefined t ht).mpr hundef)]
  · obtain ⟨t, ht⟩ := Option.ne_none_iff_exists'.mp hsome
    rw [hpost t hstopped ht, if_neg (mt (hundefined t ht).mp hdefined), hactive, hphase]
    rfl
  · obtain ⟨c, ht, -⟩ := id hoff
    rw [hpost _ hstopped ht, hactive, hphase, if_pos ((hdisabled _ ht).mpr hoff)]
    rfl
  · obtain ⟨t, ht⟩ := Option.ne_none_iff_exists'.mp hsome
    rw [hpost t hstopped ht, if_neg (mt (hundefined t ht).mp hdefined), hactive, hphase,
      Bool.not_true, if_neg Bool.false_ne_true, if_neg (mt (hdisabled t ht).mp hon), State.advance_queues,
      if_pos hfull]

/-- A POST that passes its checks: the request queued at the tail, and arbitration, of the answered state. -/
theorem exec_post_accepted (hs : s.takesByteAt 0x14) (haccepts : s.scheduler.accepts = true) {target : ImmTarget}
    (htarget : postTarget s.command.args[0] s.command.args[1] = some target) (hdefined : target.undefined s = false)
    (hactive : s.active .immediate = true) (henabled : target.disabled s = false)
    (hroom : s.queues.immediate.length < 8) :
    exec .post s = .next
      (({ s with queues := { s.queues with
        immediate := s.queues.immediate ++ [{ target := target, tag := s.command.args[2] }] } } : State).answered
          0x10 .ok .none).arbitrate := by
  have hpost : s.advance.postCommand =
      (s.advance.postImmediate { target := target, tag := s.command.args[2] }).accept := by
    have hdefined' : target.undefined s.advance = false := hdefined
    have hactive' : s.advance.active .immediate = true := hactive
    have henabled' : target.disabled s.advance = false := henabled
    rw [State.postCommand_eq (s := s.advance) haccepts htarget, hdefined', hactive', henabled',
      if_neg (Nat.not_le.mpr hroom : ¬ 8 ≤ s.advance.queues.immediate.length)]
    rfl
  have hexec : exec .post s = .next (s.advance.postCommand.leave 0x10) := State.occur_takeCommand hs 0x10 _
  rw [hexec, hpost, State.postImmediate, State.arbitrate_accept_leave, ← State.advance_accept_leave]
  rfl

/-- A lone channel request granted: its member starts at once. -/
theorem State.arbitrate_lone_channel {slot : Nat} {c : Fin 16} {tag : Byte} (hfree : s.free = true)
    (hqueues : s.queues = { Queues.none with immediate := [{ target := .channel c, tag := tag }] })
    (hsearch : s.search = some (slot, .immediate)) (hc : (s.channels[c]).enabled = true) :
    s.arbitrate = { s with
      queues := .none
      arbiter := { s.arbiter with pointer := (slot + 1) % s.arbiter.activeBank.length }
      seq := ({ s.seq with
        current := some (.immediate { target := .channel c, tag := tag }), captured := none } : Sequencer).settlingOn
          s.channels[c] 0 } := by
  have htake : s.queues.take .immediate = some (.immediate { target := .channel c, tag := tag }, .none) := by
    rw [hqueues]; rfl
  rw [State.arbitrate_serves hfree hsearch htake rfl, 
    State.goOn_starts (s := s.grant slot _ .none) (skipped := []) (rest := []) rfl rfl (by simp) hc]
  rfl

/-- Settles O13: the accepted POST is its arbitration, which is idle on a busy converter and grants a lone request. -/
theorem postQueuesOrStartsARequest : Obligations.PostQueuesOrStartsARequest := by
  unfold Obligations.PostQueuesOrStartsARequest
  intro target c slot s hs haccepts htarget hdefined henabled hactive hroom request posted granted
  have hundefined : target.undefined s = false := by
    rw [← Bool.not_eq_true, ImmTarget.undefined_iff]
    rintro ⟨g, hg, hempty⟩
    exact hdefined g hg hempty
  have hdisabled : target.disabled s = false := by
    rw [← Bool.not_eq_true, ImmTarget.disabled_iff]
    rintro ⟨d, hd, hoff⟩
    exact Bool.false_ne_true (hoff.symm.trans (henabled d hd))
  have hexec : exec .post s = .next (posted.answered 0x10 .ok .none).arbitrate :=
    exec_post_accepted hs haccepts htarget hundefined hactive hdisabled hroom
  refine ⟨hexec, fun hbusy => ?_, fun hfree hchannel hempty hsearch => ?_⟩
  · rw [hexec, State.arbitrate_of_not_free (s := posted.answered 0x10 .ok .none) hbusy]
  · subst hchannel
    have hlone : posted.queues = { Queues.none with immediate := [request] } := by simp only [posted, hempty]; rfl
    rw [hexec, State.arbitrate_lone_channel (s := posted.answered 0x10 .ok .none) hfree hlone hsearch (henabled c rfl),
      ← hempty]
    rfl

/-! ### CALIBRATE -/

theorem State.calibrateCommand_badState (h : s.scheduler.accepts = false) :
    s.calibrateCommand = s.refuse .badState := by
  simp [State.calibrateCommand, h]

/-- CALIBRATE in a scheduler state that accepts demands: the checks left, in their order. -/
theorem State.calibrateCommand_eq (h : s.scheduler.accepts = true) :
    s.calibrateCommand =
      if s.command.args[0] = 0 then s.refuse .badArg
      else if s.active .maintenance = false then s.refuse .noPhase
      else ((calTargets s.command.args[0]).foldl (fun t m => t.postMaintenance m) s).accept := by
  simp [State.calibrateCommand, h]

/-- CALIBRATE is refused at the check that answers `r`. -/
theorem exec_calibrate_refused (hs : s.takesByteAt 0x14) {r : ResultCode}
    (h : s.advance.calibrateCommand = s.advance.refuse r) : exec .calibrate s = .next (s.answered 0x12 r .none) :=
  State.occur_refused hs h

/-- An OK answer after a MAINTENANCE demand might have come before it. -/
theorem State.postMaintenance_accept_leave (code : Byte) (m : CalTarget) (s : State) :
    (s.postMaintenance m).accept.leave code = (s.accept.leave code).postMaintenance m := by
  have hqueues : (s.accept.leave code).queues = s.queues := by rw [State.accept_leave]
  unfold State.postMaintenance
  rw [hqueues]
  split
  · simp only [State.accept_leave]
  · rw [State.arbitrate_accept_leave]
    simp only [State.accept_leave]

/-- A MAINTENANCE demand that meets no free converter merges or waits. -/
theorem State.postMaintenance_of_not_free (h : s.free = false) (m : CalTarget) :
    s.postMaintenance m =
      { s with queues := { s.queues with maintenance := demanded m s.queues.maintenance } } := by
  unfold State.postMaintenance demanded
  split
  · rfl
  · exact State.arbitrate_of_not_free h

/-- MAINTENANCE demands that meet no free converter, in order. -/
theorem State.postMaintenances_of_not_free (l : List CalTarget) (h : s.free = false) :
    l.foldl (fun t m => t.postMaintenance m) s =
      { s with queues := { s.queues with
        maintenance := l.foldl (fun q m => demanded m q) s.queues.maintenance } } := by
  induction l generalizing s with
  | nil => rfl
  | cons m l ih => rw [List.foldl_cons, State.postMaintenance_of_not_free h, ih (by exact h)]; rfl

/-- A CALIBRATE that passes its checks: a demand for each set bit, in order, on the answered state. -/
theorem exec_calibrate_accepted (hs : s.takesByteAt 0x14) (hstopped : s.scheduler ≠ .stopped)
    (hmask : s.command.args[0] ≠ 0) (hactive : s.active .maintenance = true) :
    exec .calibrate s = .next
      ((calTargets s.command.args[0]).foldl (fun t m => t.postMaintenance m) (s.answered 0x12 .ok .none)) := by
  have hcalibrate : s.advance.calibrateCommand =
      ((calTargets s.command.args[0]).foldl (fun t m => t.postMaintenance m) s.advance).accept := by
    have hpasses : ¬ s.advance.active .maintenance = false := ne_false_of_eq_true hactive
    rw [State.calibrateCommand_eq (s := s.advance) ((Scheduler.accepts_iff hs.2).mpr hstopped), State.advance_command,
      if_neg hmask, if_neg hpasses]
  have hexec : exec .calibrate s = .next (s.advance.calibrateCommand.leave 0x12) := State.occur_takeCommand hs 0x12 _
  rw [hexec, hcalibrate, ← State.advance_accept_leave]
  exact congrArg _ (List.foldl_hom (fun t : State => t.accept.leave 0x12)
    fun t m => (State.postMaintenance_accept_leave 0x12 m t).symm).symm

/-- Settles O16: the checks in their order, and the demands of the set bits on the answered state. -/
theorem calibratePostsInBitOrder : Obligations.CalibratePostsInBitOrder := by
  unfold Obligations.CalibratePostsInBitOrder
  intro s hs targets post
  have haccepts := Scheduler.accepts_iff hs.2
  refine ⟨fun hstopped => ?_, fun hstopped hmask => ?_, fun hstopped hmask hactive => ?_,
    fun hstopped hmask hactive => ?_, fun hstopped hmask hactive hbusy => ?_⟩
  · exact exec_calibrate_refused hs (State.calibrateCommand_badState (Scheduler.not_accepts_of_stopped hstopped))
  · refine exec_calibrate_refused hs ?_
    rw [State.calibrateCommand_eq (s := s.advance) (haccepts.mpr hstopped), State.advance_command, if_pos hmask]
  · refine exec_calibrate_refused hs ?_
    have hfails : s.advance.active .maintenance = false := hactive
    rw [State.calibrateCommand_eq (s := s.advance) (haccepts.mpr hstopped), State.advance_command, if_neg hmask,
      if_pos hfails]
  · exact exec_calibrate_accepted hs hstopped hmask hactive
  · rw [exec_calibrate_accepted hs hstopped hmask hactive,
      State.postMaintenances_of_not_free (s := s.answered 0x12 .ok .none) _ hbusy]
    rfl

end
end Sys2Proof.Machine
end

section
/-! SUPPORT. STOP; and the statements on STOP, on the cadence expiries and on the trigger inputs. -/

namespace Sys2Proof.Machine

section
variable {s : State}

/-! ### STOP -/

/-- STOP ends the current request: the converter works on it, or recovers with more of it to do (R84). -/
def Sequencer.stops (q : Sequencer) : Bool := q.current.isSome && q.converter != .idle && q.converter != .halted

/-- The entry of the work in progress that STOP ends (R80, R84). -/
def State.stopDrafts (s : State) : List Draft := if s.seq.stops then (s.workDraft .stop).toList else []

/-- Step 1 of STOP aborts the current request, or does nothing. -/
theorem State.stopWork_eq_ite (s : State) : s.stopWork = if s.seq.stops then s.abortWork .stop .recovering else s := by
  unfold State.stopWork Sequencer.stops
  cases s.seq.converter with
  | idle | halted => simp
  | settling | converting | calibrating | recovering => simp

/-- All that step 1 of STOP does. -/
theorem State.stopWork_eq (s : State) :
    s.stopWork =
      { s with
        seq := if s.seq.stops then s.seq.ended .recovering else s.seq
        ring := s.ring.handAll s.stopDrafts
        alerts := s.alerts.also fun f =>
          s.ring.abortFlags s.stopDrafts f || s.seq.stops && s.seq.holdsImmediate && decide (f = .immDone) } := by
  rw [State.stopWork_eq_ite, State.stopDrafts]
  cases s.seq.stops with
  | false => simp
  | true => simp [State.abortWork_eq, State.dropRequest_eq, State.abortEntries]

/-- The flags of a STOP (R31, R32, R75, R112, R143). -/
def State.stopFlags (s : State) : Flag → Bool
  | .runChange => true
  | .aborted => !(s.stopDrafts ++ s.queues.immediate.filterMap (s.withdrawnDraft .stop)).isEmpty
  | .immDone => s.seq.stops && s.seq.holdsImmediate || !s.queues.immediate.isEmpty
  | .ringLoss => s.ring.loses (s.stopDrafts ++ s.queues.immediate.filterMap (s.withdrawnDraft .stop))
  | _ => false

/-- All that an accepted STOP does: the work ended, then the queues flushed, the cadences and the holdoffs. -/
theorem State.stopCommand_eq (h : s.scheduler.accepts = true) :
    s.stopCommand = State.accept
      { s with
        scheduler := .stopped
        queues := .none
        cadence := Vector.replicate 16 { armed := false, countdown := 0 }
        triggers := s.triggers.map fun t => { t with count := 0 }
        seq := if s.seq.stops then s.seq.ended .recovering else s.seq
        ring := s.ring.handAll (s.stopDrafts ++ s.queues.immediate.filterMap (s.withdrawnDraft .stop))
        alerts := s.alerts.also s.stopFlags } := by
  have hlater : s.stopWork.withdrawnDraft .stop = s.withdrawnDraft .stop := by rw [State.stopWork_eq]; rfl
  rw [State.stopCommand, if_pos h, State.flush_eq, hlater, State.stopWork_eq, State.raise_eq]
  simp only [State.disarmAll, State.endHoldoffs, Alerts.also_also, Ring.handAll_append]
  rw [Alerts.also_congr (g := s.stopFlags)]
  intro f
  cases f with
  | aborted => simp [State.stopFlags, Ring.abortFlags]; cases s.stopDrafts <;> simp
  | ringLoss => simp [State.stopFlags, Ring.abortFlags, Ring.loses_append]
  | immDone | cadOverrun | trgOverrun | calDone | calFail | refFault | cmdError | runChange =>
    simp [State.stopFlags, Ring.abortFlags]

/-- Settles O11: the five steps of STOP on the state past CMD. -/
theorem stopEndsFlushesAndDisarms : Obligations.StopEndsFlushesAndDisarms := by
  unfold Obligations.StopEndsFlushesAndDisarms
  intro s hs hscheduler ends drafts
  have haccepts : s.scheduler.accepts = true := by
    obtain h | h | h := hscheduler <;> rw [h] <;> rfl
  have htriggers : (s.triggers.map fun t => { t with count := 0 }) =
      Vector.ofFn fun i : Fin 2 => { s.triggers[i] with count := 0 } := by
    ext1 i hi; simp
  have hexec : exec .stop s = .next (s.advance.stopCommand.leave 0x04) := State.occur_takeCommand hs 0x04 _
  rw [hexec, State.stopCommand_eq (s := s.advance) haccepts, State.accept_leave, State.answered_ok, ← htriggers,
    Alerts.also_congr (f := s.advance.stopFlags)]
  · rfl
  · intro f; cases f <;> rfl

/-! ### A cadence expiry -/

/-- A channel whose expiry is due is armed. -/
theorem State.armed_of_nextExpiry {c : Fin 16} (h : s.nextExpiry = some c) : (s.cadence[c]).armed = true := by
  have hdue := List.find?_some h
  simp only [State.expiryDue, Bool.and_eq_true] at hdue
  exact hdue.1.1

/-- The expiry that is due reloads the period of its channel and hands on one demand. -/
theorem exec_cadenceExpiry {c : Fin 16} (h : s.nextExpiry = some c) :
    exec (.cadenceExpiry c) s = .next
      (({ s with cadence := s.cadence.set c { armed := true, countdown := (s.channels[c]).period } } :
        State).postCadence c) := by
  have hexec : exec (.cadenceExpiry c) s = s.occur (decide (s.nextExpiry = some c)) (s.expire c) := rfl
  rw [hexec, decide_eq_true h, State.occur_true]
  simp only [State.expire, State.armed_of_nextExpiry h]

/-- Settles O44: the reload, then the demand by its three outcomes. -/
theorem expiryReloadsAndPosts : Obligations.ExpiryReloadsAndPosts := by
  unfold Obligations.ExpiryReloadsAndPosts
  intro c s hnext loaded flagged
  have hexec : exec (.cadenceExpiry c) s = .next (loaded.postCadence c) := exec_cadenceExpiry hnext
  have hflagged : { loaded with alerts := loaded.alerts.also fun f => decide (f = .cadOverrun) } = flagged := by
    rw [Alerts.also_congr]
    intro f; cases f <;> rfl
  rw [hexec]
  refine ⟨fun hactive => ?_, fun hactive hpending => ?_, fun hactive hpending => ?_⟩
  · rw [State.postCadence_dropped (s := loaded) hactive, hflagged]
  · rw [State.postCadence_coalesced (s := loaded) hactive hpending, ← hflagged]
  · exact congrArg _ (State.postCadence_queued (s := loaded) hactive hpending)

/-! ### A TRIGGERED demand, by its three outcomes (R27) -/

theorem State.postTriggered_dropped {g : Fin 4} (h : s.active .triggered = false) :
    s.postTriggered g = { s with alerts := s.alerts.also fun f => decide (f = .trgOverrun) } := by
  simp [State.postTriggered, h, State.raise_eq]

theorem State.postTriggered_coalesced {g : Fin 4} (h : s.active .triggered = true)
    (hpending : pendingFor g s.queues.triggered = true) :
    s.postTriggered g =
      { s with
        queues := { s.queues with triggered := mergeInto g s.queues.triggered }
        alerts := s.alerts.also fun f => decide (f = .trgOverrun) } := by
  simp [State.postTriggered, h, hpending, State.raise_eq]

theorem State.postTriggered_queued {g : Fin 4} (h : s.active .triggered = true)
    (hpending : pendingFor g s.queues.triggered = false) :
    s.postTriggered g =
      ({ s with queues := { s.queues with triggered := s.queues.triggered ++ [Merged.fresh g] } } :
        State).arbitrate := by
  simp [State.postTriggered, h, hpending]

/-! ### A trigger edge -/

/-- An edge matches BOTH, and the selection of its own direction (R48). -/
theorem EdgeSelect.fits_iff (level : Bool) (e : EdgeSelect) :
    e.fits level = true ↔ e = .both ∨ e = if level then .rising else .falling := by
  cases level <;> cases e <;> decide

/-- The level change is one that the Trigger Unit accepts as a trigger (R48, R49). -/
def State.edgeTriggers (i : Fin 2) (level : Bool) (s : State) : Prop :=
  (s.triggers[i]).lastLevel ≠ level ∧ s.edgeAccepted i level = true

/-- The level changed at the pin and seen by the Trigger Unit (R48). -/
def State.levelSeen (i : Fin 2) (level : Bool) (s : State) : State :=
  { s with
    pins := { s.pins with trig := s.pins.trig.set i level }
    triggers := s.triggers.set i { s.triggers[i] with lastLevel := level } }

theorem State.changeLevel_held {i : Fin 2} {level : Bool} (h : s.held = true) :
    s.changeLevel i level = { s with pins := { s.pins with trig := s.pins.trig.set i level } } := by
  simp [State.changeLevel, h]

theorem State.changeLevel_recorded {i : Fin 2} {level : Bool} (h : s.held = false) (hno : ¬ s.edgeTriggers i level) :
    s.changeLevel i level = s.levelSeen i level := by
  unfold State.changeLevel
  rw [h, if_neg Bool.false_ne_true]
  exact if_neg hno

/-- An accepted edge loads the holdoff and hands on one demand for the record's group. -/
theorem State.changeLevel_accepted {i : Fin 2} {level : Bool} (h : s.held = false) (hyes : s.edgeTriggers i level) :
    s.changeLevel i level =
      ({ s.levelSeen i level with
        triggers := s.triggers.set i
          { s.triggers[i] with lastLevel := level, count := (s.triggers[i]).record.holdoff } } : State).postTriggered
            (s.triggers[i]).record.group := by
  have hinput : (s.levelSeen i level).triggers[i] = { s.triggers[i] with lastLevel := level } := by
    simp [State.levelSeen]
  have haccept : s.changeLevel i level = (s.levelSeen i level).acceptTrigger i := by
    unfold State.changeLevel
    rw [h, if_neg Bool.false_ne_true]
    exact if_pos hyes
  rw [haccept, State.acceptTrigger, hinput]
  simp only [State.levelSeen, Vector.set_set]

/-- Settles O45: the edge recorded, and, where it is accepted, the demand by its three outcomes. -/
theorem edgesAreRecordedAndAccepted : Obligations.EdgesAreRecordedAndAccepted := by
  unfold Obligations.EdgesAreRecordedAndAccepted
  intro i level s hpin input g seen matched accepted held flagged
  have hexec : exec (.triggerEdge i level) s = .next (s.changeLevel i level) := by
    have hrow : exec (.triggerEdge i level) s = s.occur (decide (s.pins.trig[i] ≠ level)) (s.changeLevel i level) := rfl
    rw [hrow, decide_eq_true hpin, State.occur_true]
  have haccepted : s.edgeTriggers i level ↔ accepted := by
    simp only [State.edgeTriggers, State.edgeAccepted, Bool.and_eq_true, EdgeSelect.fits_iff, beq_iff_eq, accepted,
      matched, input]
    tauto
  have hdemand (hfree : s.held = false) (hyes : accepted) : s.changeLevel i level = held.postTriggered g :=
    State.changeLevel_accepted hfree (haccepted.mpr hyes)
  have hflagged : { held with alerts := held.alerts.also fun f => decide (f = .trgOverrun) } = flagged := by
    rw [Alerts.also_congr]
    intro f; cases f <;> rfl
  rw [hexec]
  refine ⟨fun hheld => ?_, fun hfree hno => ?_, fun hfree hyes hactive => ?_, fun hfree hyes hactive hpending => ?_,
    fun hfree hyes hactive hpending => ?_⟩
  · rw [State.changeLevel_held hheld]
  · rw [State.changeLevel_recorded hfree (mt haccepted.mp hno)]
    rfl
  · rw [hdemand hfree hyes, State.postTriggered_dropped (s := held) hactive, hflagged]
  · rw [hdemand hfree hyes, State.postTriggered_coalesced (s := held) hactive hpending, ← hflagged]
  · exact congrArg _ ((hdemand hfree hyes).trans (State.postTriggered_queued (s := held) hactive hpending))

end
end Sys2Proof.Machine
end

section
/-! SUPPORT. The bytes of the register window by their addresses, and the statement on the window. -/

namespace Sys2Proof.Machine

/-! ### Bits and bytes -/

/-- A byte given by its bits, as a number. -/
theorem bitsByte_toNat (b0 b1 b2 b3 b4 b5 b6 b7 : Bool) :
    (bitsByte b0 b1 b2 b3 b4 b5 b6 b7).toNat = b0.toNat + 2 * b1.toNat + 4 * b2.toNat + 8 * b3.toNat + 16 * b4.toNat
      + 32 * b5.toNat + 64 * b6.toNat + 128 * b7.toNat := by
  have h0 := b0.toNat_lt
  have h1 := b1.toNat_lt
  have h2 := b2.toNat_lt
  have h3 := b3.toNat_lt
  have h4 := b4.toNat_lt
  have h5 := b5.toNat_lt
  have h6 := b6.toNat_lt
  have h7 := b7.toNat_lt
  rw [bitsByte, BitVec.toNat_ofNat, Nat.mod_eq_of_lt]
  omega

/-- The bits of a byte given by its bits. -/
theorem bitsByte_getLsbD (b0 b1 b2 b3 b4 b5 b6 b7 : Bool) (k : Fin 8) :
    (bitsByte b0 b1 b2 b3 b4 b5 b6 b7).getLsbD k = [b0, b1, b2, b3, b4, b5, b6, b7][k] := by
  revert b0 b1 b2 b3 b4 b5 b6 b7 k
  decide +kernel

/-- The bits of a byte given by a function of their places. -/
theorem bitsByte_getLsbD_apply (m : Nat → Bool) (k : Fin 8) :
    (bitsByte (m 0) (m 1) (m 2) (m 3) (m 4) (m 5) (m 6) (m 7)).getLsbD k = m k := by
  rw [bitsByte_getLsbD]
  fin_cases k <;> rfl

/-- The two bytes of a sixteen-bit quantity. -/
theorem highByte_append_lowByte (v : Word16) : highByte v ++ lowByte v = v := by
  rw [highByte, lowByte, BitVec.extractLsb'_append_extractLsb'_eq_extractLsb' (by rfl), BitVec.extractLsb'_eq_self]

/-- The four bytes of a 32-bit quantity. -/
theorem wordByte_append (t : Word32) : wordByte t 3 ++ wordByte t 2 ++ wordByte t 1 ++ wordByte t 0 = t := by
  simp only [wordByte]
  rw [BitVec.extractLsb'_append_extractLsb'_eq_extractLsb' (by rfl),
    BitVec.extractLsb'_append_extractLsb'_eq_extractLsb' (by rfl),
    BitVec.extractLsb'_append_extractLsb'_eq_extractLsb' (by rfl), BitVec.extractLsb'_eq_self]

/-- A number below 256 as a byte. -/
theorem byte_toNat {n : Nat} (h : n < 256) : (BitVec.ofNat 8 n).toNat = n := by
  rw [BitVec.toNat_ofNat, Nat.mod_eq_of_lt h]

/-! ### The blocks of the window -/

section
variable {s : State} {n : Nat}

theorem State.windowByte_command (hlow : 16 ≤ n) (hhigh : n < 24) :
    s.windowByte (BitVec.ofNat 8 n) = s.command.bytes.getD (n - 16) 0 := by
  simp only [State.windowByte, byte_toNat (Nat.lt_trans hhigh (by decide))]
  rw [if_neg (by omega), if_pos hhigh]

theorem State.windowByte_head (hlow : 48 ≤ n) (hhigh : n < 64) :
    s.windowByte (BitVec.ofNat 8 n) = s.ring.headBytes.getD (n - 48) 0 := by
  simp only [State.windowByte, byte_toNat (Nat.lt_trans hhigh (by decide))]
  rw [if_neg (by omega), if_neg (by omega), if_neg (by omega), if_neg (by omega), if_pos hhigh]

theorem State.windowByte_staging (hlow : 64 ≤ n) (hhigh : n < 104) :
    s.windowByte (BitVec.ofNat 8 n) = s.command.staging.toList.getD (n - 64) 0 := by
  simp only [State.windowByte, byte_toNat (Nat.lt_trans hhigh (by decide))]
  rw [if_neg (by omega), if_neg (by omega), if_neg (by omega), if_neg (by omega), if_neg (by omega), if_pos hhigh]

theorem State.windowByte_latest (hlow : 128 ≤ n) (hhigh : n < 160) :
    s.windowByte (BitVec.ofNat 8 n) = s.latestByte (n - 128) := by
  simp only [State.windowByte, byte_toNat (Nat.lt_trans hhigh (by decide))]
  rw [if_neg (by omega), if_neg (by omega), if_neg (by omega), if_neg (by omega), if_neg (by omega), if_neg (by omega),
    if_neg (by omega), if_pos hhigh]

theorem State.windowByte_arg (s : State) (k : Fin 4) :
    s.windowByte (BitVec.ofNat 8 (16 + k.val)) = s.command.args[k] := by
  rw [State.windowByte_command (by omega) (by omega), Nat.add_sub_cancel_left]
  fin_cases k <;> rfl

theorem State.windowByte_staged (s : State) (k : Fin 40) :
    s.windowByte (BitVec.ofNat 8 (64 + k.val)) = s.command.staging[k] := by
  rw [State.windowByte_staging (by omega) (by omega), Nat.add_sub_cancel_left]
  simp

/-- The addresses that the map does not list (R174). -/
theorem State.windowByte_unlisted {a : Byte} (s : State)
    (h : a.toNat = 15 ∨ a.toNat = 29 ∨ 39 ≤ a.toNat ∧ a.toNat < 48 ∨ 104 ≤ a.toNat ∧ a.toNat < 128
      ∨ 160 ≤ a.toNat) :
    s.windowByte a = 0x00 := by
  unfold State.windowByte
  obtain h | h | ⟨hlow, hhigh⟩ | ⟨hlow, hhigh⟩ | h := h
  · rw [h]; rfl
  · rw [h]; rfl
  · dsimp only
    rw [if_neg (by omega), if_neg (by omega), if_neg (by omega), if_pos hhigh, List.getD_eq_default]
    rw [Ring.bytes, List.length_cons]
    simp only [List.length_cons, List.length_nil]
    omega
  · dsimp only
    rw [if_neg (by omega), if_neg (by omega), if_neg (by omega), if_neg (by omega), if_neg (by omega),
      if_neg (by omega), if_pos hhigh]
  · dsimp only
    rw [if_neg (by omega), if_neg (by omega), if_neg (by omega), if_neg (by omega), if_neg (by omega),
      if_neg (by omega), if_neg (by omega), if_neg (by omega)]

end

/-! ### Status, Arbiter, ring and Monitor -/

/-- A byte that shows one condition at its lowest bit. -/
theorem boolByte_toNat (b : Bool) : (if b then 0x01 else 0x00 : Byte).toNat = b.toNat := by
  cases b <;> rfl

/-- POLICY at 22h. -/
theorem Policy.code_eq (p : Policy) : p.code = if p = .hold then 0x00 else 0x01 := by
  cases p <;> rfl

/-- RUN_STATUS holds both states' codes (R158). -/
theorem runStatus_toNat (k : Scheduler) (c : Converter) :
    (BitVec.ofNat 8 (k.code + 16 * c.code)).toNat = k.code + 16 * c.code :=
  byte_toNat (by cases k <;> cases c <;> decide)

/-- ARB_STATUS: the pointer and the active bank (R72). -/
theorem Arbiter.status_toNat (a : Arbiter) :
    a.status.toNat = a.pointer % 32 + if a.active = .b then 128 else 0 := by
  rw [Arbiter.status]
  cases a.active with
  | a => exact byte_toNat (by dsimp only; omega)
  | b => exact byte_toNat (by dsimp only; omega)

/-- The length that 09h shows is the active bank's. -/
theorem Arbiter.activeBank_length (a : Arbiter) :
    a.activeBank.length = (if a.active = .b then a.bankB else a.bankA).length := by
  rw [Arbiter.activeBank]
  cases a.active <;> rfl

/-- DEVIATION is set while a channel is in the deviation set (R127). -/
theorem State.deviationFlag_iff (s : State) : s.deviationFlag = true ↔ ∃ c : Fin 16, (s.monitors[c]).inSet = true := by
  simp [State.deviationFlag, Vector.any_eq_true, Fin.exists_iff]

/-- A bit of DEVIATION_SET (R129). -/
theorem State.deviationByte_getLsbD (s : State) (k : Fin 2) (i : Fin 8) :
    (s.deviationByte k).getLsbD i = (s.monitors[8 * k.val + i.val]).inSet := by
  have hmonitor : s.monitors[8 * k.val + i.val]? = some s.monitors[8 * k.val + i.val] :=
    Vector.getElem?_eq_getElem (by omega)
  refine (bitsByte_getLsbD_apply (fun j => (s.monitors[8 * k.val + j]?.map MonitorRecord.inSet).getD false) i).trans ?_
  rw [hmonitor]
  rfl

/-- DEVIATION_SET, channel by channel (R129). -/
theorem State.deviationSet_getLsbD (s : State) (c : Fin 16) :
    (s.deviationByte 1 ++ s.deviationByte 0).getLsbD c.val = (s.monitors[c]).inSet := by
  rw [BitVec.getLsbD_append]
  split
  · next hlow =>
    refine (s.deviationByte_getLsbD 0 ⟨c.val, hlow⟩).trans ?_
    simp
  · next hhigh =>
    refine (s.deviationByte_getLsbD 1 ⟨c.val - 8, by omega⟩).trans ?_
    have hc : 8 * (1 : Fin 2).val + (c.val - 8) = c.val := by simp; omega
    simp only [hc]
    rfl

/-- The two bytes of a channel's latest value (R130). -/
theorem State.windowByte_latest_of_channel (s : State) (c : Fin 16) :
    s.windowByte (BitVec.ofNat 8 (128 + 2 * c.val)) = lowByte (((s.monitors[c]).latest.map Latest.value).getD 0x8000)
      ∧ s.windowByte (BitVec.ofNat 8 (129 + 2 * c.val)) =
        highByte (((s.monitors[c]).latest.map Latest.value).getD 0x8000) := by
  have hlow : 128 + 2 * c.val - 128 = 2 * c.val := by omega
  have hhigh : 129 + 2 * c.val - 128 = 2 * c.val + 1 := by omega
  have hdiv : (2 * c.val + 1) / 2 = c.val := by omega
  rw [State.windowByte_latest (by omega) (by omega), State.windowByte_latest (by omega) (by omega), hlow, hhigh]
  simp [State.latestByte, hdiv, Nat.add_mod]

/-! ### The head entry -/

theorem EntryKind.code_le (k : EntryKind) : k.code ≤ 2 := by
  cases k <;> simp [EntryKind.code]

theorem Origin.classCode_le (o : Origin) : o.classCode ≤ 3 := by
  cases o <;> simp [Origin.classCode]

/-- The byte at 30h (R108, R115). -/
theorem entryHeader_toNat (k : EntryKind) (o : Origin) :
    (BitVec.ofNat 8 (1 + 2 * k.code + 16 * o.classCode)).toNat = 1 + 2 * k.code + 16 * o.classCode := by
  have hkind := k.code_le
  have hclass := o.classCode_le
  exact byte_toNat (by omega)

/-- The byte at 34h names a channel or a calibration target (R108). -/
theorem EntryTarget.byte_toNat (t : EntryTarget) :
    t.byte.toNat = match t with
      | .channel c => c.val
      | .calibration t => 128 + (if t.kind = .gain then 16 else 0) + t.gain.val := by
  cases t with
  | channel c => exact Machine.byte_toNat (by omega)
  | calibration t =>
    obtain ⟨kind, gain⟩ := t
    cases kind <;> exact Machine.byte_toNat (by dsimp only; omega)

/-- The byte at 36h names the group and the position, where there are any (R108). -/
theorem place_toNat (p : Option Place) :
    ((p.map fun p => BitVec.ofNat 8 (16 * p.group.val + p.position % 8)).getD 0).toNat =
      match p with
      | some p => 16 * p.group.val + p.position % 8
      | none => 0 := by
  cases p with
  | none => rfl
  | some p => exact byte_toNat (by omega)

/-- The byte at 37h: the sample flags, the reason or the outcome (R108). -/
theorem EntryKind.detailByte_toNat (k : EntryKind) :
    k.detailByte.toNat = match k with
      | .sample _ flags => flags.clip.toNat + 2 * flags.uncal.toNat + 4 * flags.dev.toNat
      | .aborted .host => 1
      | .aborted .disabled => 2
      | .aborted .reference => 3
      | .aborted .stop => 4
      | .calibrationDone _ => 1
      | .calibrationFail => 2 := by
  cases k with
  | sample v f => simp [EntryKind.detailByte, bitsByte_toNat]
  | aborted r => cases r <;> rfl
  | calibrationDone v => rfl
  | calibrationFail => rfl

/-- The presence byte, bit by bit. -/
theorem Entry.presence_getLsbD (e : Entry) (k : Fin 8) :
    e.presence.getLsbD k =
      [e.draft.origin.tag?.isSome, e.draft.place.isSome, e.draft.kind.value?.isSome, decide (e.draft.kind.code = 0),
        decide (e.draft.kind.code = 1), decide (e.draft.kind.code = 2), e.draft.origin.count?.isSome,
        e.lossBefore.isSome][k] := by
  obtain ⟨seq, lossBefore, origin, target, place, timestamp, kind⟩ := e
  refine (bitsByte_getLsbD _ _ _ _ _ _ _ _ k).trans ?_
  cases kind <;> rfl

/-- With an entry at the head, the head window holds its bytes (R115). -/
theorem State.windowByte_entry {s : State} {e : Entry} {rest : List Entry} (h : s.ring.entries = e :: rest)
    (k : Fin 16) :
    s.windowByte (BitVec.ofNat 8 (48 + k.val)) = e.bytes.getD k.val 0 := by
  rw [State.windowByte_head (by omega) (by omega), Ring.headBytes, h, Nat.add_sub_cancel_left]
  rfl

/-- With no entry, the head window is 00h throughout (R115). -/
theorem State.windowByte_noEntry {s : State} (h : s.ring.entries = []) (k : Fin 16) :
    s.windowByte (BitVec.ofNat 8 (48 + k.val)) = 0x00 := by
  rw [State.windowByte_head (by omega) (by omega), Ring.headBytes, h]
  rfl

/-- Settles O39: block by block, each byte of the window by what its block of the state shows there. -/
theorem windowShowsTheState : Obligations.WindowShowsTheState := by
  unfold Obligations.WindowShowsTheState
  intro s w bit f
  have hflags (k : Fin 8) := bitsByte_getLsbD s.ringLevelFlag f.ringLoss s.deviationFlag f.immDone f.cadOverrun
    f.trgOverrun f.calDone f.calFail k
  have hlength : (w 9).toNat = (if s.arbiter.active = .b then s.arbiter.bankB else s.arbiter.bankA).length % 256 := by
    rw [← Arbiter.activeBank_length]
    exact BitVec.toNat_ofNat _ _
  have hhigh : (w 25).toNat = f.refFault.toNat + 2 * f.aborted.toNat + 4 * f.cmdError.toNat + 8 * f.runChange.toNat :=
    (bitsByte_toNat _ _ _ _ _ _ _ _).trans (by simp [f])
  refine ⟨⟨rfl, rfl, runStatus_toNat _ _, rfl⟩,
    ⟨BitVec.toNat_ofNat _ _, BitVec.toNat_ofNat _ _, BitVec.toNat_ofNat _ _, BitVec.toNat_ofNat _ _⟩,
    ⟨s.arbiter.status_toNat, hlength⟩,
    ⟨wordByte_append s.timebase, BitVec.toNat_setWidth_of_le (by decide : 2 ≤ 8)⟩,
    ⟨s.windowByte_arg, rfl, rfl, rfl, rfl⟩,
    ⟨hflags 0, hflags 1, (Bool.eq_iff_iff.mp (hflags 2)).trans s.deviationFlag_iff, hflags 3, hflags 4, hflags 5,
      hflags 6, hflags 7⟩,
    hhigh, ⟨rfl, BitVec.toNat_setWidth_of_le (by decide : 4 ≤ 8), boolByte_toNat s.alerts.master⟩,
    s.deviationSet_getLsbD,
    ⟨BitVec.toNat_ofNat _ _, BitVec.toNat_ofNat _ _, s.ring.policy.code_eq, highByte_append_lowByte _,
      highByte_append_lowByte _⟩,
    State.windowByte_noEntry, ?_, s.windowByte_staged, ?_, fun a => s.windowByte_unlisted, rfl, rfl, rfl, rfl, rfl⟩
  · intro e rest hring d tag count value kind served
    have hbyte (k : Fin 16) : w (48 + k.val) = e.bytes.getD k.val 0 := State.windowByte_entry hring k
    have hkind : kind = d.kind.code := by simp only [kind]; cases d.kind <;> rfl
    have hnum (k : Fin 16) := congrArg BitVec.toNat (hbyte k)
    have hpresence (k : Fin 8) : bit 49 k.val = _ :=
      (congrArg (fun b : Byte => b.getLsbD k.val) (hbyte 1)).trans (e.presence_getLsbD k)
    have hseq : w 51 ++ w 50 = e.seq := (congrArg₂ (· ++ ·) (hbyte 3) (hbyte 2)).trans (highByte_append_lowByte _)
    have hvalue : w 59 ++ w 58 = value.getD 0 :=
      (congrArg₂ (· ++ ·) (hbyte 11) (hbyte 10)).trans (highByte_append_lowByte _)
    have htime : w 63 ++ w 62 ++ w 61 ++ w 60 = d.timestamp :=
      (congrArg₂ (· ++ ·) (congrArg₂ (· ++ ·) (congrArg₂ (· ++ ·) (hbyte 15) (hbyte 14)) (hbyte 13)) (hbyte 12)).trans
        (wordByte_append _)
    rw [hkind]
    exact ⟨⟨(hnum 0).trans (entryHeader_toNat _ _), hseq⟩,
      ⟨hpresence 0, hpresence 1, hpresence 2, hpresence 3, hpresence 4, hpresence 5, hpresence 6, hpresence 7⟩,
      (hnum 4).trans d.target.byte_toNat, ⟨hbyte 5, (hnum 6).trans (place_toNat _)⟩,
      (hnum 7).trans d.kind.detailByte_toNat,
      ⟨(hnum 8).trans (BitVec.toNat_setWidth_of_le (by decide : 4 ≤ 8)), hbyte 9, hvalue, htime⟩⟩
  · intro c
    obtain ⟨hlow, hhigh⟩ : w (128 + 2 * c.val) = _ ∧ w (129 + 2 * c.val) = _ := s.windowByte_latest_of_channel c
    rw [hlow, hhigh]
    refine ⟨fun habsent => ?_, fun l hl => ?_⟩
    · rw [habsent]
      exact ⟨rfl, rfl⟩
    · rw [hl]
      exact highByte_append_lowByte l.value

end Sys2Proof.Machine
end

section
/-! SUPPORT. The statements on SET_TICK, on SOFT_TRIGGER and on the resets. -/

namespace Sys2Proof.Machine

section
variable {s : State}

/-! ### SET_TICK -/

theorem State.setTickCommand_badState (h : s.scheduler ≠ .stopped) : s.setTickCommand = s.refuse .badState := by
  simp [State.setTickCommand, h]

/-- SET_TICK in STOPPED: the check of the selection, or its store. -/
theorem State.setTickCommand_eq (h : s.scheduler = .stopped) :
    s.setTickCommand =
      if 3 < (s.command.args[0]).toNat then s.refuse .badArg
      else ({ s with tickSel := (s.command.args[0]).extractLsb' 0 2 } : State).accept := by
  simp [State.setTickCommand, h]

/-- Settles O31: the two checks in their order, and the selection stored in the answered state. -/
theorem setTickStoresTheSelection : Obligations.SetTickStoresTheSelection := by
  unfold Obligations.SetTickStoresTheSelection
  intro s hs
  refine ⟨fun hscheduler => ?_, fun hstopped hlarge => ?_, fun sel hstopped hsel => ?_⟩
  · exact State.occur_refused hs (State.setTickCommand_badState (s := s.advance) hscheduler)
  · refine State.occur_refused hs (f := State.setTickCommand) ?_
    rw [State.setTickCommand_eq (s := s.advance) hstopped, State.advance_command, if_pos hlarge]
  · have hsmall : ¬ 3 < (s.command.args[0]).toNat := by omega
    have hstored : (s.command.args[0]).extractLsb' 0 2 = sel := BitVec.eq_of_toNat_eq (by
      rw [BitVec.extractLsb'_toNat, hsel, Nat.shiftRight_zero, Nat.mod_eq_of_lt sel.isLt])
    have hexec : exec .setTick s = .next (s.advance.setTickCommand.leave 0x41) := State.occur_takeCommand hs 0x41 _
    rw [hexec, State.setTickCommand_eq (s := s.advance) hstopped, State.advance_command, if_neg hsmall, hstored,
      State.accept_leave, State.answered_ok]
    rfl

/-! ### SOFT_TRIGGER -/

theorem State.softTriggerCommand_badState (h : s.scheduler.accepts = false) :
    s.softTriggerCommand = s.refuse .badState := by
  simp [State.softTriggerCommand, h]

theorem State.softTriggerCommand_badInput (haccepts : s.scheduler.accepts = true)
    (h : byteFin 2 s.command.args[0] = none) : s.softTriggerCommand = s.refuse .badArg := by
  simp [State.softTriggerCommand, haccepts, h]

/-- SOFT_TRIGGER of input `i` in a scheduler state that accepts demands: the checks left, in their order. -/
theorem State.softTriggerCommand_eq (haccepts : s.scheduler.accepts = true) {i : Fin 2}
    (h : byteFin 2 s.command.args[0] = some i) :
    s.softTriggerCommand =
      if (s.triggers[i]).record.edge = .off then s.refuse .badState
      else if (s.triggers[i]).count ≠ 0 then s.refuse .holdoff
      else if s.active .triggered = false then s.refuse .noPhase
      else (s.acceptTrigger i).accept := by
  simp [State.softTriggerCommand, haccepts, h]

/-- SOFT_TRIGGER is refused at the check that answers `r`. -/
theorem exec_softTrigger_refused (hs : s.takesByteAt 0x14) {r : ResultCode}
    (h : s.advance.softTriggerCommand = s.advance.refuse r) :
    exec .softTrigger s = .next (s.answered 0x11 r .none) :=
  State.occur_refused hs h

/-- An OK answer after a TRIGGERED demand might have come before it. -/
theorem State.postTriggered_accept_leave (code : Byte) (g : Fin 4) (s : State) :
    (s.postTriggered g).accept.leave code = (s.accept.leave code).postTriggered g := by
  have hactive : (s.accept.leave code).active .triggered = s.active .triggered := by rw [State.accept_leave]; rfl
  have hqueues : (s.accept.leave code).queues = s.queues := by rw [State.accept_leave]
  unfold State.postTriggered
  rw [hactive, hqueues]
  split
  · simp only [State.accept_leave, State.raise_eq]
  · split
    · simp only [State.accept_leave, State.raise_eq]
    · rw [State.arbitrate_accept_leave]
      simp only [State.accept_leave]

/-- A SOFT_TRIGGER that passes its checks: the holdoff loaded and the demand handed on, of the answered state. -/
theorem exec_softTrigger_accepted (hs : s.takesByteAt 0x14) (hstopped : s.scheduler ≠ .stopped) {i : Fin 2}
    (hinput : byteFin 2 s.command.args[0] = some i) (hedge : (s.triggers[i]).record.edge ≠ .off)
    (hcount : (s.triggers[i]).count = 0) (hactive : s.active .triggered = true) :
    exec .softTrigger s = .next
      (({ s.answered 0x11 .ok .none with
        triggers := s.triggers.set i { s.triggers[i] with count := (s.triggers[i]).record.holdoff } } :
          State).postTriggered (s.triggers[i]).record.group) := by
  have haccepts := (Scheduler.accepts_iff hs.2).mpr hstopped
  have hpasses : s.advance.softTriggerCommand = (s.advance.acceptTrigger i).accept :=
    (State.softTriggerCommand_eq (s := s.advance) haccepts hinput).trans
      ((if_neg hedge).trans ((if_neg (not_not.mpr hcount)).trans (if_neg (ne_false_of_eq_true hactive))))
  have hexec : exec .softTrigger s = .next (s.advance.softTriggerCommand.leave 0x11) :=
    State.occur_takeCommand hs 0x11 _
  rw [hexec, hpasses, State.acceptTrigger, State.postTriggered_accept_leave, State.accept_leave, State.answered_ok]
  rfl

/-- Settles O15: the checks in their order, and the demand of an accepted trigger by what is pending. -/
theorem softTriggerActsAsAnAcceptedTrigger : Obligations.SoftTriggerActsAsAnAcceptedTrigger := by
  unfold Obligations.SoftTriggerActsAsAnAcceptedTrigger
  intro i s hs record g loaded
  have haccepts := Scheduler.accepts_iff hs.2
  have hinput (hi : (s.command.args[0]).toNat = i.val) : byteFin 2 s.advance.command.args[0] = some i :=
    byteFin_eq_some.mpr hi.symm
  have hcommand (hstopped : s.scheduler ≠ .stopped) (hi : (s.command.args[0]).toNat = i.val) :=
    State.softTriggerCommand_eq (s := s.advance) (haccepts.mpr hstopped) (hinput hi)
  refine ⟨fun hstopped => ?_, fun hstopped hlarge => ?_, fun hstopped hi => ⟨fun hoff => ?_, fun hon hcount => ?_,
    fun hon hcount hactive => ?_, fun hon hcount hactive => ?_⟩⟩
  · exact exec_softTrigger_refused hs
      (State.softTriggerCommand_badState (s := s.advance) (Scheduler.not_accepts_of_stopped hstopped))
  · exact exec_softTrigger_refused hs
      (State.softTriggerCommand_badInput (s := s.advance) (haccepts.mpr hstopped) (byteFin_eq_none.mpr hlarge))
  · exact exec_softTrigger_refused hs ((hcommand hstopped hi).trans (if_pos hoff))
  · exact exec_softTrigger_refused hs ((hcommand hstopped hi).trans ((if_neg hon).trans (if_pos hcount)))
  · exact exec_softTrigger_refused hs ((hcommand hstopped hi).trans
      ((if_neg hon).trans ((if_neg (not_not.mpr hcount)).trans (if_pos hactive))))
  · rw [exec_softTrigger_accepted hs hstopped (hinput hi) hon hcount hactive]
    split
    · next hpending =>
      rw [State.postTriggered_coalesced (s := loaded) hactive hpending, Alerts.also_congr (f := fun f => decide _)]
      · simp only [loaded, State.answered_ok]
        rfl
      · intro f; cases f <;> rfl
    · next hpending =>
      exact congrArg _ (State.postTriggered_queued (s := loaded) hactive (Bool.eq_false_of_not_eq_true hpending))

/-! ### The resets -/

/-- All that a device reset keeps, and the trigger inputs one by one (R45, R48). -/
theorem State.deviceReset_eq (s : State) :
    s.deviceReset = { State.reset with
      calibration := s.calibration
      triggers := Vector.ofFn fun i : Fin 2 =>
        { record := { edge := .off, group := 0, holdoff := 0 }, count := 0, lastLevel := s.pins.trig[i] }
      port := s.port
      pins := s.pins
      pending := s.pending } := rfl

/-- The levels seen at the end of a reset change the trigger inputs alone (R48). -/
theorem State.latchLevels_eq (s : State) :
    s.latchLevels = { s with triggers := Vector.ofFn fun i : Fin 2 =>
      { s.triggers[i] with lastLevel := s.pins.trig[i] } } := rfl

/-- Settles O41: each reset is the device reset with what it keeps, and each end of one takes the levels. -/
theorem resetsReturnEveryBlock : Obligations.ResetsReturnEveryBlock := by
  unfold Obligations.ResetsReturnEveryBlock
  intro s fresh abandoned levels
  refine ⟨?_, ?_, fun hs => ?_, fun hlow => ?_, fun hdown => ?_⟩
  · have hrow : exec .rstnLow s = .next { s.deviceReset with
      port := s.port.abandoned, pins := { s.pins with rstnLow := true } } := rfl
    rw [hrow, State.deviceReset_eq]
    rfl
  · have hrow : exec .por s = .next { s.deviceReset with
      calibration := State.reset.calibration
      port := s.port.abandoned
      pins := { s.pins with supplyDown := true } } := rfl
    rw [hrow, State.deviceReset_eq]
    rfl
  · have hrow : exec .deviceReset s = s.occur (s.writingAt 0x14) s.resetCommand := rfl
    rw [hrow, (State.writingAt_iff _ _).mpr hs.1, State.occur_true, State.resetCommand, if_neg hs.2,
      State.deviceReset_eq]
    rfl
  · have hrow : exec .rstnRise s =
      s.occur s.pins.rstnLow ({ s with pins := { s.pins with rstnLow := false } } : State).latchLevels := rfl
    rw [hrow, hlow, State.occur_true, State.latchLevels_eq]
  · have hrow : exec .supplyEstablished s =
      s.occur s.pins.supplyDown ({ s with pins := { s.pins with supplyDown := false } } : State).latchLevels := rfl
    rw [hrow, hdown, State.occur_true, State.latchLevels_eq]

end
end Sys2Proof.Machine
end

section
/-! SUPPORT. The expiries that are due, taken in channel order; and the statements on START and on the tick. -/

namespace Sys2Proof.Machine

section
variable {s : State}

/-! ### One expiry -/

theorem State.expire_scheduler (c : Fin 16) (s : State) : (s.expire c).scheduler = s.scheduler :=
  (State.expire_frame c s).scheduler_eq

/-- An expiry leaves the cadence of every other channel. -/
theorem State.expire_expiryDue_of_ne {c d : Fin 16} (h : d ≠ c) (s : State) :
    (s.expire c).expiryDue d = s.expiryDue d := by
  have hcadence : (s.expire c).cadence[d] = s.cadence[d] := by
    simp [State.expire_cadence, Fin.val_ne_iff.mpr h.symm]
  simp only [State.expiryDue, hcadence, State.expire_scheduler]

/-- A channel that has expired is not due again, its countdown being its period. -/
theorem State.expire_expiryDue_self {c : Fin 16} (h : (s.channels[c]).period ≠ 0) :
    (s.expire c).expiryDue c = false := by
  have hcountdown : ((s.expire c).cadence[c]).countdown = (s.channels[c]).period := by simp [State.expire_cadence]
  rw [State.expiryDue, hcountdown, beq_eq_false_iff_ne.mpr h, Bool.and_false, Bool.false_and]

/-! ### The expiries in channel order -/

theorem channelOrder_nodup : channelOrder.Nodup := List.nodup_finRange 16

theorem mem_channelOrder (c : Fin 16) : c ∈ channelOrder := List.mem_finRange c

/-- An expiry leaves what is due of the channels after it, so the channels due at the start are those that expire. -/
theorem State.foldl_expiryDue {l : List (Fin 16)} (h : l.Nodup) (s : State) :
    l.foldl (fun t c => if t.expiryDue c then t.expire c else t) s =
      (l.filter fun c => s.expiryDue c).foldl (fun t c => t.expire c) s := by
  induction l generalizing s with
  | nil => rfl
  | cons c l ih =>
    obtain ⟨hc, hl⟩ := List.nodup_cons.mp h
    rw [List.foldl_cons, ih hl]
    cases hdue : s.expiryDue c with
    | false => rw [List.filter_cons_of_neg (by simp [hdue])]; rfl
    | true =>
      have hlater : (l.filter fun d => (s.expire c).expiryDue d) = l.filter fun d => s.expiryDue d :=
        List.filter_congr fun d hd => State.expire_expiryDue_of_ne (ne_of_mem_of_not_mem hd hc) s
      rw [if_pos rfl, hlater, List.filter_cons_of_pos (p := fun c => s.expiryDue c) hdue, List.foldl_cons]

/-- The expiries taken are those due, in increasing channel order. -/
theorem State.takeExpiries_eq (s : State) :
    s.takeExpiries = (channelOrder.filter fun c => s.expiryDue c).foldl (fun t c => t.expire c) s :=
  State.foldl_expiryDue channelOrder_nodup s

theorem State.takeExpiries_of_none (h : s.nextExpiry = none) : s.takeExpiries = s := by
  have hnone : channelOrder.filter (fun c => s.expiryDue c) = [] :=
    List.filter_eq_nil_iff.mpr (List.find?_eq_none.mp h)
  rw [State.takeExpiries_eq, hnone, List.foldl_nil]

/-- The lowest-numbered expiry that is due is taken first. -/
theorem State.takeExpiries_of_some {c : Fin 16} (h : s.nextExpiry = some c) (hperiod : (s.channels[c]).period ≠ 0) :
    s.takeExpiries = (s.expire c).takeExpiries := by
  have hhead : (channelOrder.filter fun d => s.expiryDue d).head? = some c := by rw [List.head?_filter]; exact h
  obtain ⟨rest, hrest⟩ := List.head?_eq_some_iff.mp hhead
  have hnotin : c ∉ rest := by
    have hnodup := hrest ▸ channelOrder_nodup.filter fun d => s.expiryDue d
    exact (List.nodup_cons.mp hnodup).1
  have hlater : (channelOrder.filter fun d => (s.expire c).expiryDue d) = rest := by
    have hdue (d : Fin 16) : (s.expire c).expiryDue d = (s.expiryDue d && d != c) := by
      by_cases hdc : d = c
      · subst hdc; simp [State.expire_expiryDue_self hperiod]
      · simp [State.expire_expiryDue_of_ne hdc, hdc]
    simp only [hdue]
    rw [← List.filter_filter, ← List.filter_comm, hrest, List.filter_cons_of_neg (by simp)]
    exact List.filter_eq_self.mpr fun d hd => by simpa using ne_of_mem_of_not_mem hd hnotin
  rw [State.takeExpiries_eq s, State.takeExpiries_eq (s.expire c), hrest, hlater, List.foldl_cons]

/-! ### The tick -/

/-- Settles O43: the counts of a tick without expiries, the expiries still due, and a holdoff at 0. -/
theorem tickMovesEveryCount : Obligations.TickMovesEveryCount := by
  unfold Obligations.TickMovesEveryCount
  intro c i s
  have htick (t : State) (h : t.scheduler ≠ .starting) : exec .tick t = .next t.tick := by
    have hrow : exec .tick t = t.occur (decide (t.scheduler ≠ .starting)) t.tick := rfl
    rw [hrow, decide_eq_true h, State.occur_true]
  refine ⟨fun hs hnone => ?_, fun hnext hperiod => ?_, fun hcount => ?_⟩
  · have hcadence : s.cadence.map Cadence.tick = Vector.ofFn fun d : Fin 16 =>
        if (s.cadence[d]).armed ∧ (s.cadence[d]).countdown ≠ 0 then
          { armed := true, countdown := (s.cadence[d]).countdown - 1 }
        else s.cadence[d] := by
      ext1 d hd
      simp only [Vector.getElem_map, Vector.getElem_ofFn, Cadence.tick, Fin.getElem_fin]
      split
      · next h => rw [h.1]
      · rfl
    have htriggers : s.triggers.map TriggerInput.tick = Vector.ofFn fun j : Fin 2 =>
        { s.triggers[j] with count := if (s.triggers[j]).count = 0 then 0 else (s.triggers[j]).count - 1 } := by
      ext1 j hj
      simp only [Vector.getElem_map, Vector.getElem_ofFn, TriggerInput.tick, Fin.getElem_fin]
      split
      · rfl
      · next h => rw [if_pos (not_not.mp h), ← not_not.mp h]
    rw [htick s hs, State.tick, State.takeExpiries_of_none hnone, hcadence, htriggers]
  · have hs : s.scheduler ≠ .starting := by
      have hdue := List.find?_some hnext
      intro hstarting
      simp [State.expiryDue, hstarting, Scheduler.accepts] at hdue
    rw [htick s hs, htick (s.expire c) (by rw [State.expire_scheduler]; exact hs), State.tick, State.tick,
      State.takeExpiries_of_some hnext hperiod]
  · have hrow : exec (.holdoffEnd i) s = s.occur ((s.triggers[i]).count == 0) s := rfl
    rw [hrow, hcount]
    rfl

/-! ### Expiries and an answer -/

/-- An OK answer after a CADENCE demand might have come before it. -/
theorem State.postCadence_accept_leave (code : Byte) (c : Fin 16) (s : State) :
    (s.postCadence c).accept.leave code = (s.accept.leave code).postCadence c := by
  have hactive : (s.accept.leave code).active .cadence = s.active .cadence := by rw [State.accept_leave]; rfl
  have hqueues : (s.accept.leave code).queues = s.queues := by rw [State.accept_leave]
  unfold State.postCadence
  rw [hactive, hqueues]
  split
  · simp only [State.accept_leave, State.raise_eq]
  · split
    · simp only [State.accept_leave, State.raise_eq]
    · rw [State.arbitrate_accept_leave]
      simp only [State.accept_leave]

/-- An OK answer after an expiry might have come before it. -/
theorem State.expire_accept_leave (code : Byte) (c : Fin 16) (s : State) :
    (s.expire c).accept.leave code = (s.accept.leave code).expire c := by
  rw [State.expire, State.postCadence_accept_leave]
  simp only [State.expire, State.accept_leave]

/-- Whether the converter is free is read from the scheduler and the sequencer alone. -/
theorem State.free_congr {t : State} (hscheduler : t.scheduler = s.scheduler) (hseq : t.seq = s.seq) :
    t.free = s.free := by
  simp only [State.free, hscheduler, hseq]

/-- An expiry that meets no free converter, of a channel with no request pending. -/
theorem State.expire_of_not_free {c : Fin 16} (hbusy : s.free = false) (hactive : s.active .cadence = true)
    (hnone : pendingFor c s.queues.cadence = false) :
    s.expire c =
      { s with
        cadence := s.cadence.set c { s.cadence[c] with countdown := (s.channels[c]).period }
        queues := { s.queues with cadence := s.queues.cadence ++ [Merged.fresh c] } } :=
  have hloaded := State.postCadence_queued (c := c)
    (s := { s with cadence := s.cadence.set c { s.cadence[c] with countdown := (s.channels[c]).period } }) hactive hnone
  hloaded.trans (State.arbitrate_of_not_free ((State.free_congr rfl rfl).trans hbusy))

/-- The cadence records with the periods of these channels loaded (R41). -/
def State.reloaded (l : List (Fin 16)) (s : State) : Vector Cadence 16 :=
  Vector.ofFn fun d : Fin 16 =>
    if d ∈ l then { s.cadence[d] with countdown := (s.channels[d]).period } else s.cadence[d]

@[simp] theorem State.reloaded_nil (s : State) : s.reloaded [] = s.cadence := by
  ext1 d hd; simp [State.reloaded]

/-- A period loaded, and then those of other channels. -/
theorem State.reloaded_cons {c : Fin 16} {l : List (Fin 16)} (h : c ∉ l) (q : Queues) (s : State) :
    ({ s with
      cadence := s.cadence.set c { s.cadence[c] with countdown := (s.channels[c]).period }, queues := q } :
        State).reloaded l = s.reloaded (c :: l) := by
  unfold State.reloaded
  congr 1
  funext d
  by_cases hd : d = c
  · subst hd; simp [h]
  · simp [hd, Fin.val_ne_iff.mpr (Ne.symm hd)]

/-- Expiries that meet no free converter post a request each, in their order, and reload the periods. -/
theorem State.expires_of_not_free {l : List (Fin 16)} (hnodup : l.Nodup) (hbusy : s.free = false)
    (hactive : s.active .cadence = true) (hnone : ∀ c ∈ l, pendingFor c s.queues.cadence = false) :
    l.foldl (fun t c => t.expire c) s =
      { s with
        cadence := s.reloaded l
        queues := { s.queues with cadence := s.queues.cadence ++ l.map Merged.fresh } } := by
  induction l generalizing s with
  | nil => simp
  | cons c l ih =>
    obtain ⟨hc, hl⟩ := List.nodup_cons.mp hnodup
    rw [List.foldl_cons, State.expire_of_not_free hbusy hactive (hnone c List.mem_cons_self)]
    refine Eq.trans (ih hl ?_ ?_ fun d hd => ?_) ?_
    · exact (State.free_congr rfl rfl).trans hbusy
    · exact hactive
    · rw [pendingFor_fresh, hnone d (List.mem_cons_of_mem c hd), decide_eq_false (ne_of_mem_of_not_mem hd hc).symm]
      rfl
    · rw [State.reloaded_cons hc]
      simp only [List.append_assoc, List.map_cons, List.cons_append, List.nil_append]

/-- Arbitration finds the converter as busy after them as before. -/
theorem State.expires_arbitrate_of_not_free {l : List (Fin 16)} (hnodup : l.Nodup) (hbusy : s.free = false)
    (hactive : s.active .cadence = true) (hnone : s.queues = .none) :
    (l.foldl (fun t c => t.expire c) s).arbitrate =
      { s with cadence := s.reloaded l, queues := { s.queues with cadence := l.map Merged.fresh } } := by
  have hqueue : s.queues.cadence = [] := by rw [hnone]; rfl
  rw [State.expires_of_not_free hnodup hbusy hactive fun c _ => by rw [hqueue]; rfl, hqueue, List.nil_append]
  refine State.arbitrate_of_not_free ?_
  rw [← hbusy]
  exact State.free_congr rfl rfl

/-! ### START -/

/-- The state that START leaves before its expiries (R40, R139). -/
def State.started (s : State) : State :=
  { s.answered 0x01 .ok .none with
    scheduler := .running
    cadence := Vector.ofFn fun c : Fin 16 =>
      if (s.channels[c]).cadenced then { armed := true, countdown := (s.channels[c]).offset } else s.cadence[c] }

/-- The channels that expire at START: those with cadence whose offset is 0 (R40). -/
def ChannelRecord.firstAtStart (r : ChannelRecord) : Bool := r.cadenced && r.offset == 0

@[simp] theorem State.started_channels (s : State) : s.started.channels = s.channels := by simp [State.started]
@[simp] theorem State.started_queues (s : State) : s.started.queues = s.queues := by simp [State.started]
@[simp] theorem State.started_seq (s : State) : s.started.seq = s.seq := by simp [State.started]
@[simp] theorem State.started_active (c : ServiceClass) (s : State) : s.started.active c = s.active c := by
  simp [State.active, State.started]

theorem State.started_cadence (c : Fin 16) (s : State) :
    s.started.cadence[c] =
      if (s.channels[c]).cadenced then { armed := true, countdown := (s.channels[c]).offset } else s.cadence[c] := by
  simp [State.started]

/-- After START from disarmed cadences, the expiries due are those at offset 0. -/
theorem State.started_expiryDue (hdisarmed : ∀ c : Fin 16, (s.cadence[c]).armed = false) (c : Fin 16) :
    s.started.expiryDue c = (s.channels[c]).firstAtStart := by
  have haccepts : s.started.scheduler.accepts = true := rfl
  rw [State.expiryDue, State.started_cadence, haccepts, ChannelRecord.firstAtStart]
  cases (s.channels[c]).cadenced with
  | true => simp
  | false => simp only [Bool.false_eq_true, if_false, hdisarmed c, Bool.false_and]

/-- The channels that expire at START then count from their periods. -/
theorem State.started_reloaded (s : State) :
    s.started.reloaded (channelOrder.filter fun c => (s.channels[c]).firstAtStart) = Vector.ofFn fun c : Fin 16 =>
      if (s.channels[c]).firstAtStart then { armed := true, countdown := (s.channels[c]).period }
      else s.started.cadence[c] := by
  unfold State.reloaded
  congr 1
  funext c
  cases hfirst : (s.channels[c]).firstAtStart with
  | true =>
    have hcadenced : (s.channels[c]).cadenced = true := (Bool.and_eq_true_iff.mp hfirst).1
    rw [if_pos (List.mem_filter.mpr ⟨mem_channelOrder c, hfirst⟩), State.started_cadence, if_pos hcadenced,
      State.started_channels, if_pos rfl]
  | false =>
    have hnot : c ∉ channelOrder.filter fun c => (s.channels[c]).firstAtStart := fun hmem =>
      Bool.false_ne_true (hfirst.symm.trans (List.mem_filter.mp hmem).2)
    rw [if_neg hnot, if_neg Bool.false_ne_true]

/-- START in STOPPED: the expiries at offset 0 in channel order, and arbitration, of the state it has started. -/
theorem exec_start (hs : s.takesByteAt 0x14) (hstopped : s.scheduler = .stopped)
    (hdisarmed : ∀ c : Fin 16, (s.cadence[c]).armed = false) :
    exec .start s = .next
      (((channelOrder.filter fun c => (s.channels[c]).firstAtStart).foldl
        (fun t c => t.expire c) s.started).arbitrate) := by
  have hexec : exec .start s = .next (s.advance.startCommand.leave 0x01) := State.occur_takeCommand hs 0x01 _
  have hcommand : s.advance.startCommand =
      ((({ s.advance with scheduler := .running } : State).armAll.takeExpiries).arbitrate).accept := if_pos hstopped
  have hstarted : (({ s.advance with scheduler := .running } : State).armAll).accept.leave 0x01 = s.started := by
    rw [State.accept_leave, State.started, State.answered_ok]
    rfl
  have hdue : (fun c => ({ s.advance with scheduler := .running } : State).armAll.expiryDue c) =
      fun c => (s.channels[c]).firstAtStart :=
    funext (State.started_expiryDue hdisarmed)
  rw [hexec, hcommand, State.arbitrate_accept_leave, State.takeExpiries_eq, hdue, ← hstarted]
  exact congrArg (fun t : State => Host.Outcome.next t.arbitrate)
    (List.foldl_hom (fun t : State => t.accept.leave 0x01) fun t c => (State.expire_accept_leave 0x01 c t).symm).symm

/-- Settles O6: nothing expires, and arbitration finds no request. -/
theorem startArmsTheCadences : Obligations.StartArmsTheCadences := by
  unfold Obligations.StartArmsTheCadences
  intro s hs hstopped hqueues hdisarmed hoffsets
  have hnone : (channelOrder.filter fun c => (s.channels[c]).firstAtStart) = [] :=
    List.filter_eq_nil_iff.mpr fun c _ hfirst => by
      obtain ⟨hcadenced, hoffset⟩ : (s.channels[c]).cadenced = true ∧ (s.channels[c]).offset = 0 := by
        simpa [ChannelRecord.firstAtStart] using hfirst
      exact hoffsets c hcadenced hoffset
  have hsearch : s.started.search = none := s.started.search_none_of_empty (s.started_queues.trans hqueues)
  rw [exec_start hs hstopped hdisarmed, hnone, List.foldl_nil, State.arbitrate_of_search_none hsearch]
  rfl

/-- Settles O7: the expiries in channel order, and, while the converter is not IDLE, the requests they post. -/
theorem startExpiresOffsetZeroInOrder : Obligations.StartExpiresOffsetZeroInOrder := by
  unfold Obligations.StartExpiresOffsetZeroInOrder
  intro s hs hstopped hdisarmed first armed
  have hfirst : first = fun c => (s.channels[c]).firstAtStart := rfl
  have harmed : armed = s.started := rfl
  have hexec := exec_start hs hstopped hdisarmed
  rw [← hfirst, ← harmed] at hexec
  refine ⟨hexec, fun hbusy hactive hqueues => ?_⟩
  have hfree : s.started.free = false := by
    rw [Bool.eq_false_iff, ne_eq, State.free_iff, State.started_seq]
    exact fun ⟨_, hidle, _⟩ => hbusy hidle
  rw [hexec, harmed, State.expires_arbitrate_of_not_free (channelOrder_nodup.filter first) hfree
    ((s.started_active _).trans hactive) (s.started_queues.trans hqueues), hfirst, State.started_reloaded,
    State.started_queues]

end
end Sys2Proof.Machine
end

section
/-! SUPPORT. The invariant of the cadences: what keeps the channels, the cadences and whether demands are taken keeps
it; what arms, disarms, reloads or counts down keeps it by the record of the channel. -/

namespace Sys2Proof.Machine

section
variable {s t : State}

/-! ### Operations that do not reach the cadences -/

/-- `t` has the channel records and the cadences of `s`, and takes demands exactly if `s` does. -/
structure State.SamePace (s t : State) : Prop where
  channels : t.channels = s.channels
  cadence : t.cadence = s.cadence
  accepts : t.scheduler.accepts = s.scheduler.accepts

theorem State.SamePace.trans {u : State} (h : s.SamePace t) (k : t.SamePace u) : s.SamePace u :=
  ⟨k.channels.trans h.channels, k.cadence.trans h.cadence, k.accepts.trans h.accepts⟩

/-- A change beside the channels, the cadences and the scheduler, before such an operation. -/
theorem State.SamePace.after {u : State} (k : t.SamePace u) (hchannels : t.channels = s.channels)
    (hcadence : t.cadence = s.cadence) (haccepts : t.scheduler.accepts = s.scheduler.accepts) : s.SamePace u :=
  State.SamePace.trans ⟨hchannels, hcadence, haccepts⟩ k

/-- The invariant speaks of nothing else. -/
theorem State.SamePace.follows (h : s.SamePace t) (hs : s.CadenceFollowsTable) : t.CadenceFollowsTable := by
  unfold State.CadenceFollowsTable
  rw [h.channels, h.cadence, h.accepts]
  exact hs

theorem State.ServesOnly.samePace (h : s.ServesOnly t) : s.SamePace t :=
  ⟨h.channels_eq, by have k := congrArg State.cadence h; exact k, congrArg Scheduler.accepts h.scheduler_eq⟩

/-- PAUSING and PAUSED take demands alike. -/
theorem State.endRequest_samePace (k : Converter) (s : State) : s.SamePace (s.endRequest k) := by
  rw [State.endRequest_eq]
  exact ⟨rfl, rfl, Scheduler.afterEnd_accepts true s.scheduler⟩

theorem State.abortEntries_samePace (ds : List Draft) (s : State) : s.SamePace (s.abortEntries ds) := ⟨rfl, rfl, rfl⟩

theorem State.abortWork_endPausing_samePace (reason : AbortReason) (k : Converter) (s : State) :
    s.SamePace (s.abortWork reason k).endPausing := by
  rw [State.abortWork_endPausing]
  exact (State.abortEntries_samePace _ s).trans (State.endRequest_samePace k _)

theorem State.arbitrate_samePace (s : State) : s.SamePace s.arbitrate := s.arbitrate_servesOnly.samePace

/-- A member's turn, or the end of the request and the arbitration that follows. -/
theorem State.goOn_samePace (p : Nat) (s : State) : s.SamePace (s.goOn p) := by
  have hturn := (State.takeTurn_servesOnly p s).samePace
  unfold State.goOn
  split
  · next t h => rw [h] at hturn; exact hturn
  · next t h =>
    rw [h] at hturn
    exact hturn.trans ((State.endRequest_samePace .idle t).trans (State.arbitrate_samePace _))

/-! ### Operations on the cadences -/

/-- A period loaded into a channel that is armed. -/
theorem State.CadenceFollowsTable.expire (h : s.CadenceFollowsTable) {c : Fin 16}
    (harmed : (s.cadence[c]).armed = true) : (s.expire c).CadenceFollowsTable := by
  refine (State.expire_frame c s).samePace.follows fun d => ?_
  by_cases hdc : d = c
  · subst hdc
    have hd := (h d).1
    simp only [Fin.getElem_fin, Vector.getElem_set_self] at harmed hd ⊢
    exact ⟨hd, fun hno => absurd (harmed.symm.trans hno) (by simp)⟩
  · simpa [Fin.val_ne_iff.mpr (Ne.symm hdc)] using h d

theorem State.armed_of_expiryDue {c : Fin 16} (h : s.expiryDue c = true) : (s.cadence[c]).armed = true := by
  simp only [State.expiryDue, Bool.and_eq_true] at h
  exact h.1.1

theorem State.CadenceFollowsTable.takeExpiries (h : s.CadenceFollowsTable) : s.takeExpiries.CadenceFollowsTable := by
  unfold State.takeExpiries
  refine List.foldlRecOn channelOrder _ h fun t ht c _ => ?_
  split
  · next hdue => exact ht.expire (State.armed_of_expiryDue hdue)
  · exact ht

/-- A count taken from a channel that is armed; a disarmed one is left. -/
theorem State.CadenceFollowsTable.tick (h : s.CadenceFollowsTable) : s.tick.CadenceFollowsTable := by
  have ht := h.takeExpiries
  unfold State.tick
  generalize s.takeExpiries = t at ht
  intro d
  obtain ⟨harmed, hcountdown⟩ := ht d
  have hticked : (t.cadence.map Cadence.tick)[d] = (t.cadence[d]).tick := by simp
  simp only [hticked, Cadence.tick]
  split
  · next hcounts => exact ⟨harmed, fun hno => absurd hcounts.1 (by simpa using hno)⟩
  · exact ⟨harmed, hcountdown⟩

/-- Out of a scheduler state that takes demands every cadence is disarmed at 0. -/
theorem State.CadenceFollowsTable.disarmed (h : s.CadenceFollowsTable) (hs : s.scheduler.accepts = false) (c : Fin 16) :
    s.cadence[c] = { armed := false, countdown := 0 } := by
  obtain ⟨harmed, hcountdown⟩ := h c
  rw [hs, Bool.false_and] at harmed
  have hzero := hcountdown harmed
  generalize s.cadence[c] = x at harmed hzero
  cases x
  dsimp only at harmed hzero
  rw [harmed, hzero]

/-- Cadences all disarmed at 0 follow a scheduler that takes no demands. -/
theorem State.cadenceFollowsTable_of_disarmed (hs : s.scheduler.accepts = false)
    (h : ∀ c : Fin 16, s.cadence[c] = { armed := false, countdown := 0 }) : s.CadenceFollowsTable := by
  intro c
  rw [h c, hs]
  exact ⟨rfl, fun _ => rfl⟩

/-! ### Run control -/

theorem State.armAll_cadence (c : Fin 16) (s : State) :
    s.armAll.cadence[c] =
      if (s.channels[c]).cadenced then { armed := true, countdown := (s.channels[c]).offset } else s.cadence[c] := by
  simp [State.armAll]

/-- START takes demands, and arms the channels that ask for cadence (R40). -/
theorem State.CadenceFollowsTable.armAll (h : s.CadenceFollowsTable) (hs : s.scheduler.accepts = false) :
    (({ s with scheduler := .running } : State).armAll).CadenceFollowsTable := by
  intro c
  have haccepts : (({ s with scheduler := .running } : State).armAll).scheduler.accepts = true := rfl
  rw [State.armAll_cadence, h.disarmed hs c, haccepts, Bool.true_and]
  dsimp only [State.armAll]
  cases (s.channels[c]).cadenced with
  | true => exact ⟨rfl, fun hno => absurd hno (by simp)⟩
  | false => exact ⟨rfl, fun _ => rfl⟩

theorem State.CadenceFollowsTable.startCommand (h : s.CadenceFollowsTable) :
    s.startCommand.state.CadenceFollowsTable := by
  unfold State.startCommand
  split
  · next hstopped =>
    rw [State.accept_state]
    exact (State.arbitrate_samePace _).follows (h.armAll (Scheduler.not_accepts_of_stopped hstopped)).takeExpiries
  · exact h

/-- A change among the scheduler states that take demands. -/
theorem State.samePace_of_accepts {k : Scheduler} (hs : s.scheduler.accepts = true) (hk : k.accepts = true) :
    s.SamePace { s with scheduler := k } := ⟨rfl, rfl, hk.trans hs.symm⟩

theorem State.CadenceFollowsTable.pauseCommand (h : s.CadenceFollowsTable) :
    s.pauseCommand.state.CadenceFollowsTable := by
  unfold State.pauseCommand
  split
  · next hs =>
    have haccepts : s.scheduler.accepts = true := by rw [hs]; rfl
    split
    · exact (State.samePace_of_accepts (k := .pausing) haccepts rfl).follows h
    · exact (State.samePace_of_accepts (k := .paused) haccepts rfl).follows h
  all_goals exact h

theorem State.CadenceFollowsTable.resumeCommand (h : s.CadenceFollowsTable) :
    s.resumeCommand.state.CadenceFollowsTable := by
  have hrunning (hs : s.scheduler.accepts = true) := State.samePace_of_accepts (k := .running) hs rfl
  unfold State.resumeCommand
  split
  · next hs => exact (hrunning (by rw [hs]; rfl)).follows h
  · next hs => exact ((hrunning (by rw [hs]; rfl)).trans (State.arbitrate_samePace _)).follows h
  all_goals exact h

theorem State.CadenceFollowsTable.stopCommand (h : s.CadenceFollowsTable) :
    s.stopCommand.state.CadenceFollowsTable := by
  cases haccepts : s.scheduler.accepts with
  | false =>
    have hrefused : s.stopCommand = s.refuse .badState := by simp [State.stopCommand, haccepts]
    rw [hrefused]
    exact h
  | true =>
    rw [State.stopCommand_eq haccepts]
    exact State.cadenceFollowsTable_of_disarmed rfl fun c => by simp [State.accept]

theorem State.CadenceFollowsTable.abortCommand (h : s.CadenceFollowsTable) :
    s.abortCommand.state.CadenceFollowsTable := by
  unfold State.abortCommand
  split
  case h_1 | h_2 => exact (State.abortWork_endPausing_samePace _ _ s).follows h
  all_goals exact h

theorem State.deviceReset_cadenceFollowsTable (s : State) : s.deviceReset.CadenceFollowsTable :=
  State.cadenceFollowsTable_of_disarmed rfl fun c => by simp [State.reset]

/-! ### Commands that post -/

theorem State.CadenceFollowsTable.postCommand (h : s.CadenceFollowsTable) :
    s.postCommand.state.CadenceFollowsTable := by
  unfold State.postCommand
  split
  · exact h
  · split
    · exact h
    · dsimp only
      split_ifs
      · exact h
      · exact h
      · exact h
      · exact h
      · exact (State.postImmediate_servesOnly _ s).samePace.follows h

theorem State.acceptTrigger_samePace (i : Fin 2) (s : State) : s.SamePace (s.acceptTrigger i) :=
  (State.acceptTrigger_frame i s).samePace.after rfl rfl rfl

theorem State.CadenceFollowsTable.softTriggerCommand (h : s.CadenceFollowsTable) :
    s.softTriggerCommand.state.CadenceFollowsTable := by
  unfold State.softTriggerCommand
  split
  · exact h
  · split
    · exact h
    · next i _ =>
      split_ifs
      · exact h
      · exact h
      · exact h
      · exact (State.acceptTrigger_samePace i s).follows h

theorem State.CadenceFollowsTable.calibrateCommand (h : s.CadenceFollowsTable) :
    s.calibrateCommand.state.CadenceFollowsTable := by
  unfold State.calibrateCommand
  split_ifs
  · exact h
  · exact h
  · exact h
  · exact List.foldlRecOn (motive := State.CadenceFollowsTable) _ _ h fun t ht m _ =>
      (State.postMaintenance_servesOnly m t).samePace.follows ht

/-! ### Table writes -/

theorem State.arm_scheduler (c : Fin 16) (s : State) : (s.arm c).scheduler = s.scheduler := by
  unfold State.arm
  split
  · rw [State.expire_scheduler]
  · rfl

theorem State.recadence_scheduler (i : Fin 16) (old : ChannelRecord) (s : State) :
    (s.recadence i old).scheduler = s.scheduler := by
  rw [State.recadence_eq]
  split_ifs
  · rfl
  · exact s.arm_scheduler i
  · rfl
  · rfl
  · rfl

/-- A channel write may end a request, and so takes demands after it as before. -/
theorem State.storeChannel_accepts (i : Fin 16) (new : ChannelRecord) (s : State) :
    (s.storeChannel i new).scheduler.accepts = s.scheduler.accepts := by
  by_cases hkeeps : (s.channels[i]).enabled = true → new.enabled = true
  · rw [State.storeChannel_of_not_disable hkeeps, State.evaluate_eq]
    exact congrArg Scheduler.accepts (State.recadence_scheduler _ _ _)
  · obtain ⟨hold, hnew⟩ : (s.channels[i]).enabled = true ∧ new.enabled = false := by simpa using hkeeps
    rw [State.storeChannel_of_disable hold hnew, State.evaluate_eq, State.disable_eq]
    exact Scheduler.afterEnd_accepts _ _

/-- The cadence of a channel that is written follows its new record, and the others stay. -/
theorem State.CadenceFollowsTable.storeChannel (h : s.CadenceFollowsTable) (i : Fin 16) (new : ChannelRecord) :
    (s.storeChannel i new).CadenceFollowsTable := by
  obtain ⟨hchannels, hcadence⟩ := s.storeChannel_channels_cadence i new
  unfold State.CadenceFollowsTable
  rw [hchannels, hcadence, s.storeChannel_accepts i new, State.recadenced]
  cases haccepts : s.scheduler.accepts with
  | false =>
    intro c
    rw [if_neg Bool.false_ne_true, h.disarmed haccepts c]
    exact ⟨rfl, fun _ => rfl⟩
  | true =>
    intro c
    rw [if_pos rfl]
    by_cases hci : c = i
    · subst hci
      obtain ⟨harmed, hcountdown⟩ := h c
      rw [haccepts, Bool.true_and] at harmed
      simp only [Fin.getElem_fin, Vector.getElem_set_self, Bool.true_and]
      cases hnew : new.cadenced with
      | true =>
        rw [if_pos rfl]
        split
        · next hsame =>
          have hold : (s.channels[c]).cadenced = true := by
            simp only [ChannelRecord.sameCadence, Bool.and_eq_true] at hsame
            exact hsame.1.1
          exact ⟨harmed.trans hold, hcountdown⟩
        · exact ⟨rfl, fun hno => absurd hno (by simp)⟩
      | false =>
        rw [if_neg Bool.false_ne_true]
        split
        · exact ⟨rfl, fun _ => rfl⟩
        · next hold => exact ⟨harmed.trans (Bool.eq_false_of_not_eq_true hold), hcountdown⟩
    · simpa [Fin.val_ne_iff.mpr (Ne.symm hci), haccepts] using h c

theorem State.CadenceFollowsTable.writeTableCommand (h : s.CadenceFollowsTable) :
    s.writeTableCommand.state.CadenceFollowsTable := by
  unfold State.writeTableCommand
  split
  · next i _ =>
    unfold State.writeChannel
    split
    · exact h
    · exact h.storeChannel i _
  · unfold State.writeGroup
    split
    · exact h
    · split_ifs <;> exact h
  · unfold State.writeTrigger
    split
    · exact h
    · split_ifs <;> exact h
  · unfold State.writePhase
    split <;> exact h
  all_goals exact h

/-! ### Commands that leave the cadences alone -/

theorem State.CadenceFollowsTable.readTableCommand (h : s.CadenceFollowsTable) :
    s.readTableCommand.state.CadenceFollowsTable := by
  unfold State.readTableCommand
  split
  · exact h
  · rw [State.accept_state]
    exact h

theorem State.CadenceFollowsTable.swapCommand (h : s.CadenceFollowsTable) :
    s.swapCommand.state.CadenceFollowsTable := by
  unfold State.swapCommand
  split_ifs <;> exact h

theorem State.CadenceFollowsTable.releaseCommand (h : s.CadenceFollowsTable) :
    s.releaseCommand.state.CadenceFollowsTable := by
  unfold State.releaseCommand
  split
  · exact h
  · dsimp only
    split_ifs <;> exact h

theorem State.CadenceFollowsTable.configCommand (h : s.CadenceFollowsTable) :
    s.configCommand.state.CadenceFollowsTable := by
  unfold State.configCommand
  dsimp only
  split
  · exact h
  · split_ifs <;> exact h

theorem State.CadenceFollowsTable.setReferenceCommand (h : s.CadenceFollowsTable) :
    s.setReferenceCommand.state.CadenceFollowsTable := by
  unfold State.setReferenceCommand
  simp only [State.putReference_eq]
  split
  · exact h
  · split_ifs <;> exact h

theorem State.CadenceFollowsTable.setTickCommand (h : s.CadenceFollowsTable) :
    s.setTickCommand.state.CadenceFollowsTable := by
  unfold State.setTickCommand
  split_ifs <;> exact h

/-! ### Registers and events -/

theorem State.requestRefFaultClear_samePace (s : State) : s.SamePace s.requestRefFaultClear := by
  unfold State.requestRefFaultClear
  split
  · exact ⟨rfl, rfl, rfl⟩
  · dsimp only
    split
    · exact (State.arbitrate_samePace _).after rfl rfl rfl
    · exact ⟨rfl, rfl, rfl⟩

theorem State.clearFlagsHigh_samePace (v : Byte) (s : State) : s.SamePace (s.clearFlagsHigh v) := by
  unfold State.clearFlagsHigh
  dsimp only
  split
  · exact (State.requestRefFaultClear_samePace _).after rfl rfl rfl
  · exact ⟨rfl, rfl, rfl⟩

theorem State.storeByte_samePace (a v : Byte) (s : State) : s.SamePace (s.storeByte a v) := by
  unfold State.storeByte
  dsimp only
  split_ifs <;> exact ⟨rfl, rfl, rfl⟩

theorem State.csnFalls_samePace (sclkHigh : Bool) (s : State) : s.SamePace (s.csnFalls sclkHigh) := by
  unfold State.csnFalls
  split <;> exact ⟨rfl, rfl, rfl⟩

/-- STARTING and STOPPED take no demands. -/
theorem State.leaveStarting_samePace (hs : s.scheduler = .starting) : s.SamePace s.leaveStarting := by
  unfold State.leaveStarting
  simp only [State.raise_eq]
  split
  · exact ⟨rfl, rfl, by rw [hs]; rfl⟩
  · exact ⟨rfl, rfl, by rw [hs]; rfl⟩

theorem State.changeLevel_samePace (i : Fin 2) (level : Bool) (s : State) : s.SamePace (s.changeLevel i level) := by
  unfold State.changeLevel
  dsimp only
  split_ifs
  · exact ⟨rfl, rfl, rfl⟩
  · exact (State.acceptTrigger_samePace i _).after rfl rfl rfl
  · exact ⟨rfl, rfl, rfl⟩

theorem State.haltForReference_samePace (s : State) : s.SamePace s.haltForReference := by
  unfold State.haltForReference
  split
  case h_4 =>
    dsimp only
    split
    · exact (State.abortWork_endPausing_samePace .reference .recovering s).trans ⟨rfl, rfl, rfl⟩
    · exact ⟨rfl, rfl, rfl⟩
  case h_5 | h_6 => exact ⟨rfl, rfl, rfl⟩
  all_goals exact State.abortWork_endPausing_samePace .reference .halted s

theorem State.completeMember_samePace (raw : Word16) (r : Request) (c : Fin 16) (m : MemberSnapshot) (s : State) :
    s.SamePace (s.completeMember raw r c m) := by
  unfold State.completeMember
  simp only [State.recordSample, State.evaluate_eq, State.produce_eq]
  exact (State.goOn_samePace _ _).after rfl rfl rfl

theorem State.completeCalibration_samePace (raw : Word16) (m : Merged CalTarget) (s : State) :
    s.SamePace (s.completeCalibration raw m) := by
  unfold State.completeCalibration
  simp only [State.raise_eq, State.produce_eq]
  exact ((State.endRequest_samePace .idle _).trans (State.arbitrate_samePace _)).after rfl rfl rfl

theorem State.endRecovery_samePace (s : State) : s.SamePace s.endRecovery := by
  unfold State.endRecovery
  split_ifs
  · exact ⟨rfl, rfl, rfl⟩
  · exact State.goOn_samePace _ s
  · exact (State.arbitrate_samePace _).after rfl rfl rfl

/-! ### Every row -/

/-- The row of a command that keeps the invariant. -/
theorem State.CadenceFollowsTable.commandRow (h : s.CadenceFollowsTable) {f : State → Answer} (b : Bool) (code : Byte)
    (hf : s.advance.CadenceFollowsTable → (f s.advance).state.CadenceFollowsTable) :
    Leaves State.CadenceFollowsTable (s.occur b (s.takeCommand code f)) := by
  refine leaves_occur h fun _ => ?_
  by_cases hs : s.scheduler = .starting
  · rw [State.takeCommand_starting _ _ _ hs]
    exact h
  · rw [State.takeCommand_eq _ _ _ hs, Answer.leave_eq]
    exact hf h

/-- A register byte that does not reach the cadences. -/
theorem State.CadenceFollowsTable.takeRegister (h : s.CadenceFollowsTable) {f : State → State}
    (hf : s.advance.SamePace (f s.advance)) : (s.takeRegister f).CadenceFollowsTable := by
  rw [State.takeRegister_eq]
  split
  · exact h
  · exact hf.follows h

/-- Each of the 46 rows keeps the invariant of the cadences. -/
theorem exec_keeps_cadenceFollowsTable (i : Instr) (s : State) (h : s.CadenceFollowsTable) :
    Leaves State.CadenceFollowsTable (exec i s) := by
  cases i with
  | start => exact h.commandRow _ _ fun ht => ht.startCommand
  | pause => exact h.commandRow _ _ fun ht => ht.pauseCommand
  | resume => exact h.commandRow _ _ fun ht => ht.resumeCommand
  | stop => exact h.commandRow _ _ fun ht => ht.stopCommand
  | abortCurrent => exact h.commandRow _ _ fun ht => ht.abortCommand
  | post => exact h.commandRow _ _ fun ht => ht.postCommand
  | softTrigger => exact h.commandRow _ _ fun ht => ht.softTriggerCommand
  | calibrate => exact h.commandRow _ _ fun ht => ht.calibrateCommand
  | tableRead => exact h.commandRow _ _ fun ht => ht.readTableCommand
  | tableWrite => exact h.commandRow _ _ fun ht => ht.writeTableCommand
  | swapBanks => exact h.commandRow _ _ fun ht => ht.swapCommand
  | ringRelease => exact h.commandRow _ _ fun ht => ht.releaseCommand
  | ringClear => exact h.commandRow _ _ fun ht => ht
  | ringConfig => exact h.commandRow _ _ fun ht => ht.configCommand
  | setReference => exact h.commandRow _ _ fun ht => ht.setReferenceCommand
  | setTick => exact h.commandRow _ _ fun ht => ht.setTickCommand
  | unknownCommandCode code => exact h.commandRow _ _ fun ht => ht
  | deviceReset =>
    refine leaves_occur h fun _ => ?_
    unfold State.resetCommand
    split
    · next hs => rw [State.takeCommand_starting _ _ _ hs]; exact h
    · exact s.advance.deviceReset_cadenceFollowsTable
  | clearLatchedFlag value =>
    exact leaves_either h (h.takeRegister ⟨rfl, rfl, rfl⟩) (h.takeRegister (State.clearFlagsHigh_samePace value _))
  | refFaultClear value => exact leaves_occur h fun _ => h.takeRegister (State.clearFlagsHigh_samePace value _)
  | alertEnableWrite value =>
    exact leaves_either h (h.takeRegister ⟨rfl, rfl, rfl⟩) (h.takeRegister ⟨rfl, rfl, rfl⟩)
  | alertMasterWrite value => exact leaves_occur h fun _ => h.takeRegister ⟨rfl, rfl, rfl⟩
  | deviationSetClearRequest value =>
    exact leaves_either h (h.takeRegister ⟨rfl, rfl, rfl⟩) (h.takeRegister ⟨rfl, rfl, rfl⟩)
  | registerWrite value => exact leaves_occur h fun _ => h.takeRegister (State.storeByte_samePace _ value _)
  | readSnapshot address => exact leaves_occur h fun _ => h
  | acknowledgingRead partialBits =>
    refine leaves_occur h fun _ => ?_
    obtain ⟨v, hv⟩ := s.acknowledge_frame
    rw [hv]
    exact h
  | rstnLow => exact leaves_next s.deviceReset_cadenceFollowsTable
  | rstnRise => exact leaves_occur h fun _ => h
  | por => exact leaves_next s.deviceReset_cadenceFollowsTable
  | supplyEstablished => exact leaves_occur h fun _ => h
  | endOfStarting => exact leaves_occur h fun hb => (State.leaveStarting_samePace (by simp_all)).follows h
  | tick => exact leaves_occur h fun _ => h.tick
  | cadenceExpiry channel =>
    exact leaves_occur h fun hb => h.expire (State.armed_of_nextExpiry (of_decide_eq_true hb))
  | holdoffEnd input => exact leaves_occur h fun _ => h
  | triggerEdge input level => exact leaves_occur h fun _ => (State.changeLevel_samePace input level s).follows h
  | referenceOnset =>
    refine leaves_next ?_
    dsimp only
    split
    · exact h
    · exact (State.haltForReference_samePace _).follows h
  | referenceRecovery => exact leaves_next h
  | endOfSettling => exact leaves_occur h fun _ => h
  | conversionCompletion raw =>
    simp only [exec, execConversionCompletion]
    split
    · exact leaves_occur h fun _ => (State.completeMember_samePace raw _ _ _ s).follows h
    · exact leaves_next h
  | calibrationCompletion raw =>
    simp only [exec, execCalibrationCompletion]
    split
    · exact leaves_occur h fun _ => (State.completeCalibration_samePace raw _ s).follows h
    · exact leaves_next h
  | endOfRecovery => exact leaves_occur h fun _ => s.endRecovery_samePace.follows h
  | csnFall sclkHigh => exact leaves_occur h fun _ => (State.csnFalls_samePace sclkHigh s).follows h
  | headerByte value => exact leaves_occur h fun _ => h
  | writeAddressByte address => exact leaves_occur h fun _ => h
  | readDataByte => exact leaves_occur h fun _ => h
  | csnRise partialBits => exact leaves_occur h fun _ => h

end

/-- Settles O58: every row keeps the invariant, and it does not speak of the rows to come. -/
theorem cadenceFollowsTheTableAndScheduler : Obligations.CadenceFollowsTheTableAndScheduler :=
  fun _ _ hs h => step_keeps (fun _ _ ht => ht) exec_keeps_cadenceFollowsTable hs h

end Sys2Proof.Machine
end

section
/-! SUPPORT. The tables' codes and limits, the banks by their names, and the statements on TABLE_READ, on writes to the
standby bank and to read-only records, and on SWAP_BANKS. -/

namespace Sys2Proof.Machine

/-! ### The records that the arguments name -/

/-- The table argument of a table (R169). -/
def TableName.code : TableName → Byte
  | .channel => 0x01 | .group => 0x02 | .trigger => 0x03 | .phase => 0x04 | .calibration => 0x05 | .monitor => 0x06

/-- The number of records of a table (R169). -/
def TableName.size : TableName → Nat
  | .channel => 16 | .group => 4 | .trigger => 2 | .phase => 2 | .calibration => 4 | .monitor => 16

theorem tableOf_code (t : TableName) : tableOf t.code = some t := by
  cases t <;> rfl

theorem code_of_tableOf {b : Byte} {t : TableName} (h : tableOf b = some t) : b = t.code := by
  unfold tableOf at h
  split_ifs at h <;> cases h <;> assumption

/-- A table has the records below its size and no other. -/
theorem recordOf_code_eq_none (t : TableName) (index : Byte) :
    recordOf t.code index = none ↔ t.size ≤ index.toNat := by
  rw [recordOf, tableOf_code]
  cases t with
  | channel | group | trigger | calibration | monitor => exact Option.map_eq_none_iff.trans byteFin_eq_none
  | phase =>
    dsimp only [TableName.size]
    split_ifs with h0 h1
    · simp [h0]
    · simp [h1]
    · simp only [true_iff]
      bv_omega

/-- The arguments name no record exactly where no table with that code has that index. -/
theorem recordOf_eq_none_iff (table index : Byte) :
    recordOf table index = none ↔ ∀ t : TableName, table = t.code → t.size ≤ index.toNat := by
  refine ⟨fun h t ht => (recordOf_code_eq_none t index).mp (ht ▸ h), fun h => ?_⟩
  cases htable : tableOf table with
  | none => rw [recordOf, htable]
  | some t =>
    have hcode := code_of_tableOf htable
    rw [hcode]
    exact (recordOf_code_eq_none t index).mpr (h t hcode)

/-- An index within a table of `n` records is its number. -/
theorem byteFin_ofNat {n : Nat} (hn : n ≤ 256) (x : Fin n) : byteFin n (BitVec.ofNat 8 x.val) = some x := by
  rw [byteFin_eq_some, byte_toNat (by omega)]

/-! ### The banks by their names -/

theorem Arbiter.activeBank_eq (a : Arbiter) : a.activeBank = if a.active = .a then a.bankA else a.bankB := by
  obtain ⟨_, _, _ | _, _⟩ := a <;> rfl

theorem Arbiter.standbyBank_eq (a : Arbiter) : a.standbyBank = if a.active = .a then a.bankB else a.bankA := by
  obtain ⟨_, _, _ | _, _⟩ := a <;> rfl

theorem Arbiter.storeStandby_eq (b : PhaseBank) (a : Arbiter) :
    a.storeStandby b = if a.active = .a then { a with bankB := b } else { a with bankA := b } := by
  obtain ⟨_, _, _ | _, _⟩ := a <;> rfl

theorem Arbiter.swap_eq (a : Arbiter) :
    a.swap = { a with active := if a.active = .a then .b else .a, pointer := 0 } := by
  obtain ⟨_, _, _ | _, _⟩ := a <;> rfl

/-! ### TABLE_READ -/

/-- TABLE_READ out of STARTING. -/
theorem exec_tableRead {s : State} (h : s.takesByteAt 0x14) :
    exec .tableRead s = .next (s.advance.readTableCommand.leave 0x20) :=
  State.occur_takeCommand h 0x20 State.readTableCommand

theorem exec_tableRead_of_some {s : State} {name : RecordName} (h : s.takesByteAt 0x14)
    (hname : recordOf s.command.args[0] s.command.args[1] = some name) :
    exec .tableRead s = .next { s.answered 0x20 .ok .none with
      command := { s.command with
        result := .ok, detail := .none, echo := 0x20, staging := stagingOf (s.recordBytes name) } } := by
  have hbytes : s.advance.recordBytes name = s.recordBytes name := by cases name <;> rfl
  rw [exec_tableRead h, State.readTableCommand, State.advance_command]
  simp only [hname]
  rw [State.accept_leave, State.answered_ok, hbytes]
  rfl

theorem exec_tableRead_of_none {s : State} (h : s.takesByteAt 0x14)
    (hname : recordOf s.command.args[0] s.command.args[1] = none) :
    exec .tableRead s = .next (s.answered 0x20 .badArg .none) := by
  rw [exec_tableRead h, State.readTableCommand, State.advance_command]
  simp only [hname]
  rw [State.refuse_leave]

/-- Settles O17: the record named by the arguments, and the bytes of its layout put together again. -/
theorem tableReadCopiesTheRecord : Obligations.TableReadCopiesTheRecord := by
  unfold Obligations.TableReadCopiesTheRecord
  intro name table index c g i s
  refine ⟨exec_tableRead_of_some, exec_tableRead_of_none, ⟨?_, ?_, ?_, rfl, rfl, ?_, ?_⟩, ?_, ⟨rfl, rfl, rfl, ?_, ?_⟩,
    ⟨rfl, ?_, rfl, highByte_append_lowByte _, highByte_append_lowByte _, wordByte_append _⟩,
    ⟨rfl, ?_, highByte_append_lowByte _, wordByte_append _, highByte_append_lowByte _⟩⟩
  · exact congrArg (Option.map RecordName.channel) (byteFin_ofNat (by decide) c)
  · exact congrArg (Option.map RecordName.group) (byteFin_ofNat (by decide) g)
  · exact congrArg (Option.map RecordName.trigger) (byteFin_ofNat (by decide) i)
  · exact congrArg (Option.map RecordName.calibration) (byteFin_ofNat (by decide) g)
  · exact congrArg (Option.map RecordName.monitor) (byteFin_ofNat (by decide) c)
  · rw [recordOf_eq_none_iff]
    refine ⟨fun h => ?_, fun h t ht => ?_⟩
    · rintro (⟨rfl | rfl, hlt⟩ | ⟨rfl | rfl, hlt⟩ | ⟨rfl | rfl, hlt⟩)
      · exact absurd hlt (Nat.not_lt.mpr (h .channel rfl))
      · exact absurd hlt (Nat.not_lt.mpr (h .monitor rfl))
      · exact absurd hlt (Nat.not_lt.mpr (h .group rfl))
      · exact absurd hlt (Nat.not_lt.mpr (h .calibration rfl))
      · exact absurd hlt (Nat.not_lt.mpr (h .trigger rfl))
      · exact absurd hlt (Nat.not_lt.mpr (h .phase rfl))
    · refine Nat.not_lt.mp fun hlt => h ?_
      cases t with
      | channel => exact .inl ⟨.inl ht, hlt⟩
      | monitor => exact .inl ⟨.inr ht, hlt⟩
      | group => exact .inr (.inl ⟨.inl ht, hlt⟩)
      | calibration => exact .inr (.inl ⟨.inr ht, hlt⟩)
      | trigger => exact .inr (.inr ⟨.inl ht, hlt⟩)
      | phase => exact .inr (.inr ⟨.inr ht, hlt⟩)
  · exact congrArg PhaseBank.bytes s.arbiter.standbyBank_eq
  · exact congrArg PhaseBank.bytes s.arbiter.activeBank_eq
  · change (s.calibration[g]).validity.code = _
    cases (s.calibration[g]).validity <;> rfl
  · exact (bitsByte_toNat _ _ _ _ _ _ _ _).trans (by simp)

/-! ### TABLE_WRITE to a bank, and to records that are read-only or missing -/

/-- Settles O23: a phase write by its record's checks; nothing is carried out on the records that cannot be written. -/
theorem standbyBankAndReadOnlyWrites : Obligations.StandbyBankAndReadOnlyWrites := by
  unfold Obligations.StandbyBankAndReadOnlyWrites
  intro bank d g c s hs name
  have hphase (hname : name = some .standbyBank) : s.advance.writeTableCommand = s.advance.writePhase := by
    simp [State.writeTableCommand, show recordOf s.command.args[0] s.command.args[1] = _ from hname]
  rw [exec_tableWrite hs]
  refine ⟨fun hname hparse => ?_, fun hname hparse => ?_, fun hname => ?_⟩
  · rw [hphase hname, State.writePhase, State.advance_command]
    simp only [hparse, State.refuseWith_leave]
  · rw [hphase hname, State.writePhase, State.advance_command]
    simp only [hparse]
    rw [State.accept_leave, State.answered_ok, State.advance_arbiter, Arbiter.storeStandby_eq]
    rfl
  · have hrefuse : s.advance.writeTableCommand = s.advance.refuse .badArg := by
      rw [State.writeTableCommand, State.advance_command]
      obtain h | h | h | h := hname <;>
        simp only [show recordOf s.command.args[0] s.command.args[1] = _ from h]
    rw [hrefuse, State.refuse_leave]

/-! ### SWAP_BANKS -/

/-- A class is stranded where requests wait and the standby bank has no slot for it (R67). -/
theorem State.stranded_iff (c : ServiceClass) (s : State) :
    s.stranded c = true ↔ s.queues.waiting c = true ∧ ¬ s.arbiter.standbyBank.appears c = true := by
  simp [State.stranded]

/-- Settles O26: the checks on the four classes in their order, and the exchange where none is stranded. -/
theorem swapExchangesTheBanks : Obligations.SwapExchangesTheBanks := by
  unfold Obligations.SwapExchangesTheBanks
  intro s hs
  by_cases hstarting : s.scheduler = .starting
  · rw [if_pos hstarting]
    change s.occur (s.writingAt 0x14) (s.takeCommand 0x22 State.swapCommand) = _
    rw [(State.writingAt_iff _ _).mpr hs, State.occur_true, State.takeCommand_starting _ _ _ hstarting]
  · have hexec : exec .swapBanks s = .next (s.advance.swapCommand.leave 0x22) :=
      State.occur_takeCommand ⟨hs, hstarting⟩ 0x22 State.swapCommand
    rw [hexec, if_neg hstarting, State.swapCommand, ← Arbiter.swap_eq s.arbiter]
    simp only [State.stranded_iff, State.advance_queues, State.advance_arbiter]
    split_ifs
    · rw [State.refuseWith_leave]
    · rw [State.refuseWith_leave]
    · rw [State.refuseWith_leave]
    · rw [State.refuseWith_leave]
    · rw [State.accept_leave, State.answered_ok]; rfl

end Sys2Proof.Machine
end

section
/-! SUPPORT. The slots in the order of the search; and the statement on the search. -/

namespace Sys2Proof.Machine

section
variable {s : State} {k slot : Nat} {c : ServiceClass}

/-- The first place below `n` where a partial function answers. -/
theorem findSome?_range_eq_some {α : Type} {f : Nat → Option α} {n : Nat} {a : α} :
    (List.range n).findSome? f = some a ↔ ∃ k < n, f k = some a ∧ ∀ j < k, f j = none := by
  induction n with
  | zero => simp
  | succ n ih =>
    rw [List.range_succ, List.findSome?_append, Option.or_eq_some_iff, ih, List.findSome?_eq_none_iff,
      List.findSome?_singleton]
    simp only [List.mem_range]
    constructor
    · rintro (⟨k, hk, hfound⟩ | ⟨hbefore, hfound⟩)
      · exact ⟨k, Nat.lt_succ_of_lt hk, hfound⟩
      · exact ⟨n, Nat.lt_succ_self n, hfound, hbefore⟩
    · rintro ⟨k, hk, hfound, hbefore⟩
      obtain hlt | rfl := Nat.lt_succ_iff_lt_or_eq.mp hk
      · exact .inl ⟨k, hlt, hfound, hbefore⟩
      · exact .inr ⟨hbefore, hfound⟩

/-- The index of the slot `k` places on from the pointer, modulo the active length (R64). -/
def State.slotIndex (k : Nat) (s : State) : Nat := (s.arbiter.pointer + k) % s.arbiter.activeBank.length

/-- The slot `k` places on from the pointer (R64). -/
def State.slotOn (k : Nat) (s : State) : Option Slot := s.arbiter.activeBank.slots[s.slotIndex k]?

/-- What the search finds `k` places on from the pointer: the slot, where its class has a request waiting (R64). -/
def State.probe (s : State) (k : Nat) : Option (Nat × ServiceClass) :=
  match s.slotOn k with
  | some (.serve c) => if s.queues.waiting c then some (s.slotIndex k, c) else none
  | _ => none

/-- The search looks at as many places as the active length, in order. -/
theorem State.search_eq (s : State) : s.search = (List.range s.arbiter.activeBank.length).findSome? s.probe := rfl

theorem State.probe_eq_some :
    s.probe k = some (slot, c) ↔
      slot = s.slotIndex k ∧ s.slotOn k = some (.serve c) ∧ s.queues.waiting c = true := by
  unfold State.probe
  split
  · next e hslot =>
    rw [hslot]
    split
    · next hwaiting =>
      simp only [Option.some.injEq, Prod.mk.injEq, Slot.serve.injEq]
      constructor
      · rintro ⟨rfl, rfl⟩
        exact ⟨rfl, rfl, hwaiting⟩
      · rintro ⟨rfl, rfl, -⟩
        exact ⟨rfl, rfl⟩
    · next hwaiting =>
      simp only [reduceCtorEq, false_iff]
      rintro ⟨-, hserve, hc⟩
      cases hserve
      exact hwaiting hc
  · next hslot =>
    simp only [reduceCtorEq, false_iff]
    rintro ⟨-, hserve, -⟩
    exact hslot c hserve

theorem State.probe_eq_none :
    s.probe k = none ↔ ∀ e, s.slotOn k = some (.serve e) → s.queues.waiting e = false := by
  simp only [Option.eq_none_iff_forall_ne_some, Prod.forall, ne_eq, State.probe_eq_some]
  exact ⟨fun h e hslot => Bool.not_eq_true _ ▸ fun hwaiting => h _ e ⟨rfl, hslot, hwaiting⟩,
    fun h _ e ⟨_, hslot, hwaiting⟩ => by simp [h e hslot] at hwaiting⟩

end

/-- Settles O50: the first place of the search at which a slot's class waits, or no such place. -/
theorem searchFindsTheFirstWaitingSlot : Obligations.SearchFindsTheFirstWaitingSlot := by
  unfold Obligations.SearchFindsTheFirstWaitingSlot
  intro slot c s bank at'
  rw [State.search_eq, findSome?_range_eq_some, List.findSome?_eq_none_iff]
  simp only [State.probe_eq_some, State.probe_eq_none, List.mem_range, and_assoc]
  exact ⟨Iff.rfl, Iff.rfl⟩

end Sys2Proof.Machine
end

section
/-! SUPPORT. The current request ended with the entry of the work in progress; and the statements on ABORT_CURRENT, on
the reference and on the end of the start-up interval. -/

namespace Sys2Proof.Machine

section
variable {s : State}

/-! ### The end of the work in progress -/

/-- The flags of the current request ended after these ABORTED entries (R75, R80, R112, R141, R147). -/
def State.workEndFlags (ds : List Draft) (s : State) : Flag → Bool
  | .aborted => !ds.isEmpty
  | .ringLoss => s.ring.loses ds
  | .immDone => s.seq.holdsImmediate
  | .runChange => decide (s.scheduler = .pausing)
  | _ => false

/-- ABORTED entries and the end of the current request after them, written out. -/
theorem State.abortEntries_endRequest (ds : List Draft) (k : Converter) (s : State) :
    (s.abortEntries ds).endRequest k =
      { s with
        ring := s.ring.handAll ds
        seq := s.seq.ended k
        scheduler := s.scheduler.afterEnd true
        alerts := s.alerts.also (s.workEndFlags ds) } := by
  rw [State.endRequest_eq]
  simp only [State.abortEntries, Alerts.also_also]
  rw [Alerts.also_congr (g := s.workEndFlags ds)]
  intro f
  cases f with
  | runChange => simp [State.workEndFlags, Ring.abortFlags]; rfl
  | immDone | ringLoss | aborted | cadOverrun | trgOverrun | calDone | calFail | refFault | cmdError =>
    simp [State.workEndFlags, Ring.abortFlags]

/-- The work in progress is the member at the position, where the current request has one there. -/
theorem State.workDraft_of_member {r : Request} {c : Fin 16} (reason : AbortReason) (hcurrent : s.seq.current = some r)
    (hmember : s.seq.members[s.seq.position]? = some c) :
    s.workDraft reason = some (s.memberDraft reason r c s.seq.position) := by
  cases r with
  | maintenance m =>
    have hnone : s.seq.members = [] := by simp [Sequencer.members, hcurrent, Request.channel?, Request.group?]
    simp [hnone] at hmember
  | immediate _ | triggered _ | cadence _ => simp only [State.workDraft, hcurrent, hmember, Option.map_some]

/-! ### ABORT_CURRENT -/

theorem State.abortCommand_inFlight (h : s.seq.converter = .settling ∨ s.seq.converter = .converting) :
    s.abortCommand = ((s.abortEntries (s.workDraft .host).toList).endRequest .recovering).accept := by
  rw [← State.abortWork_endPausing]
  obtain h | h := h <;> simp [State.abortCommand, h]

theorem State.abortCommand_calibrating (h : s.seq.converter = .calibrating) :
    s.abortCommand = s.refuse .badState := by
  simp [State.abortCommand, h]

theorem State.abortCommand_idle
    (h : s.seq.converter = .idle ∨ s.seq.converter = .recovering ∨ s.seq.converter = .halted) :
    s.abortCommand = s.refuse .idle := by
  obtain h | h | h := h <;> simp [State.abortCommand, h]

/-- Settles O12: the answer by the converter state; a member in flight ends with its HOST entry, and its request with
it. -/
theorem abortCurrentEndsTheWorkInFlight : Obligations.AbortCurrentEndsTheWorkInFlight := by
  unfold Obligations.AbortCurrentEndsTheWorkInFlight
  intro r c s hs entry
  refine ⟨fun hstarting => ?_, fun hscheduler hflight hcurrent hmember => ?_, fun hscheduler hcalibrating => ?_,
    fun hscheduler hidle => ?_⟩
  · have hrow : exec .abortCurrent s = s.occur (s.writingAt 0x14) (s.takeCommand 0x05 State.abortCommand) := rfl
    rw [hrow, (State.writingAt_iff _ _).mpr hs, State.occur_true, State.takeCommand_starting _ _ _ hstarting]
  · have hexec : exec .abortCurrent s = .next (s.advance.abortCommand.leave 0x05) :=
      State.occur_takeCommand ⟨hs, hscheduler⟩ 0x05 _
    have hdraft : s.advance.workDraft .host = some entry :=
      State.workDraft_of_member (s := s.advance) .host hcurrent hmember
    have hfull : s.ring.loses [entry] = s.ring.full := by simp [Ring.loses_cons]
    rw [hexec, State.abortCommand_inFlight (s := s.advance) hflight, hdraft, Option.toList_some,
      State.abortEntries_endRequest, State.accept_leave, State.answered_ok,
      Alerts.also_congr (f := s.advance.workEndFlags [entry])]
    · rfl
    · intro f
      cases f with
      | ringLoss => exact hfull
      | immDone => simp [State.workEndFlags, Sequencer.holdsImmediate, hcurrent]
      | runChange | cadOverrun | trgOverrun | calDone | calFail | refFault | aborted | cmdError => rfl
  · exact State.occur_refused ⟨hs, hscheduler⟩ (State.abortCommand_calibrating (s := s.advance) hcalibrating)
  · exact State.occur_refused ⟨hs, hscheduler⟩ (State.abortCommand_idle (s := s.advance) hidle)

/-! ### The onset of the reference condition -/

/-- An onset ends the current work: a member or a calibration under way, or a group that would go on after a recovery
(R85, R91). -/
def Sequencer.endsAtOnset (q : Sequencer) : Bool :=
  decide (q.converter = .settling ∨ q.converter = .converting ∨ q.converter = .calibrating
    ∨ q.converter = .recovering ∧ q.current.isSome)

/-- The entry of the work that an onset ends (R80, R85). -/
def State.onsetDrafts (s : State) : List Draft := if s.seq.endsAtOnset then (s.workDraft .reference).toList else []

/-- All that an onset does to the sequencer and with the work in progress, by the converter state. -/
theorem State.haltForReference_eq (s : State) :
    s.haltForReference =
      { s with
        scheduler := s.scheduler.afterEnd s.seq.endsAtOnset
        seq :=
          if s.seq.converter = .recovering then
            { (if s.seq.endsAtOnset then s.seq.ended .recovering else s.seq) with haltPending := true }
          else if s.seq.endsAtOnset then s.seq.ended .halted
          else { s.seq with converter := .halted }
        ring := s.ring.handAll s.onsetDrafts
        alerts := s.alerts.also fun f => s.seq.endsAtOnset && s.workEndFlags s.onsetDrafts f } := by
  unfold State.haltForReference
  cases hk : s.seq.converter with
  | settling | converting | calibrating =>
    have hends : s.seq.endsAtOnset = true := by simp [Sequencer.endsAtOnset, hk]
    simp [State.abortWork_endPausing, State.abortEntries_endRequest, State.onsetDrafts, hends]
  | recovering =>
    have hends : s.seq.endsAtOnset = s.seq.current.isSome := by simp [Sequencer.endsAtOnset, hk]
    cases hcurrent : s.seq.current.isSome with
    | true => simp [State.abortWork_endPausing, State.abortEntries_endRequest, State.onsetDrafts, hends, hcurrent]
    | false => simp [State.onsetDrafts, hends, hcurrent, Scheduler.afterEnd]
  | idle =>
    have hends : s.seq.endsAtOnset = false := by simp [Sequencer.endsAtOnset, hk]
    simp [State.onsetDrafts, hends, Scheduler.afterEnd]
  | halted =>
    have hends : s.seq.endsAtOnset = false := by simp [Sequencer.endsAtOnset, hk]
    have hstays : { s.seq with converter := .halted } = s.seq := by rw [← hk]
    simp [State.onsetDrafts, hends, Scheduler.afterEnd, hstays]

/-- An onset is seen at the pins; out of STARTING it sets the condition and REF_FAULT and acts on the sequencer
(R90). -/
theorem exec_referenceOnset (s : State) :
    exec .referenceOnset s = .next
      (if s.scheduler = .starting then { s with pins := { s.pins with refOutside := true } }
      else (({ s with pins := { s.pins with refOutside := true }, refCondition := true } : State).raise
        .refFault).haltForReference) := rfl

/-- Settles O46: REF_FAULT and the condition out of STARTING, then what the onset does by the converter state. -/
theorem referenceOnsetHaltsTheConverter : Obligations.ReferenceOnsetHaltsTheConverter := by
  unfold Obligations.ReferenceOnsetHaltsTheConverter
  intro s ends drafts
  refine ⟨fun hstarting => ?_, fun hscheduler => ?_, rfl⟩
  · rw [exec_referenceOnset, if_pos hstarting]
  · let noted : State := { s with
      pins := { s.pins with refOutside := true }
      refCondition := true
      alerts := s.alerts.also fun f => decide (f = .refFault) }
    have hdrafts : noted.onsetDrafts = drafts := rfl
    have hflags : noted.alerts.also (fun f => ends && noted.workEndFlags drafts f) =
        s.alerts.also fun f => decide (f = .refFault) || ends && noted.workEndFlags drafts f := Alerts.also_also _ _ _
    have hnone : ends = false → drafts = [] := fun h => if_neg (by simp [h])
    have hends : noted.seq.endsAtOnset = ends := rfl
    rw [exec_referenceOnset, if_neg hscheduler, State.raise_eq, State.haltForReference_eq noted, hdrafts, hends, hflags,
      Alerts.also_congr (f := fun f => decide (f = .refFault) || ends && noted.workEndFlags drafts f)]
    intro f
    cases f with
    | aborted | ringLoss =>
      cases h : ends with
      | true => rfl
      | false => rw [hnone h]; rfl
    | immDone | runChange | cadOverrun | trgOverrun | calDone | calFail | refFault | cmdError =>
      cases ends <;> rfl

/-! ### The end of the start-up interval -/

theorem State.leaveStarting_eq (s : State) :
    s.leaveStarting =
      { s with
        scheduler := .stopped
        intervalSel := s.tickSel
        refCondition := s.pins.refOutside
        seq := if s.pins.refOutside then { s.seq with converter := .halted } else s.seq
        alerts := s.alerts.also fun f => decide (f = .runChange) || s.pins.refOutside && decide (f = .refFault) } := by
  unfold State.leaveStarting
  cases h : s.pins.refOutside <;> simp [State.raise_eq]

/-- Settles O42: the row can come, and leaves STARTING with the reference's level. -/
theorem endOfStartingEntersStopped : Obligations.EndOfStartingEntersStopped := by
  unfold Obligations.EndOfStartingEntersStopped
  intro s hstarting hheld
  have hrow : exec .endOfStarting s = s.occur (decide (s.scheduler = .starting) && !s.held) s.leaveStarting := rfl
  have hoccurs : (decide (s.scheduler = .starting) && !s.held) = true := by simp [hstarting, hheld]
  rw [hrow, hoccurs, State.occur_true, State.leaveStarting_eq, Alerts.also_congr]
  intro f
  cases f <;> simp

/-! ### A request to clear REF_FAULT -/

theorem State.requestRefFaultClear_refused (h : s.refCondition = true ∨ s.seq.haltPending = true) :
    s.requestRefFaultClear = s := by
  simp [State.requestRefFaultClear, h]

theorem State.requestRefFaultClear_unhalted (hcondition : s.refCondition = false) (hpending : s.seq.haltPending = false)
    (hk : s.seq.converter ≠ .halted) :
    s.requestRefFaultClear =
      { s with alerts := { s.alerts with flags := { s.alerts.flags with refFault := false } } } := by
  simp [State.requestRefFaultClear, hcondition, hpending, hk]

/-- A granted request releases a HALTED converter. -/
theorem State.requestRefFaultClear_halted (hcondition : s.refCondition = false) (hpending : s.seq.haltPending = false)
    (hk : s.seq.converter = .halted) :
    s.requestRefFaultClear =
      ({ s with
        alerts := { s.alerts with flags := { s.alerts.flags with refFault := false } }
        seq := { s.seq with converter := .idle } } : State).arbitrate := by
  simp [State.requestRefFaultClear, hcondition, hpending, hk]

/-- Settles O33: the other flags cleared, then the request decided by the condition, the pending halt and the
converter. -/
theorem refFaultClearIsDecidedByTheMonitor : Obligations.RefFaultClearIsDecidedByTheMonitor := by
  unfold Obligations.RefFaultClearIsDecidedByTheMonitor
  intro v s hs hv f others cleared
  have hexec : exec (.refFaultClear v) s = .next others.requestRefFaultClear := by
    have hrow : exec (.refFaultClear v) s =
      s.occur (s.writingAt 0x19 && v.getLsbD 0) (s.takeRegister (State.clearFlagsHigh v)) := rfl
    rw [hrow, (State.writingAt_iff _ _).mpr hs.1, hv, Bool.and_self, State.occur_true, State.takeRegister_eq,
      if_neg hs.2, State.clearFlagsHigh, if_pos hv]
    rfl
  rw [hexec]
  refine ⟨fun hrefused => ?_, fun hcondition hpending => ?_⟩
  · rw [State.requestRefFaultClear_refused (s := others) hrefused]
  · refine ⟨fun hk => ?_, fun hk hscheduler => ?_, fun hk => ?_⟩
    · rw [State.requestRefFaultClear_unhalted (s := others) hcondition hpending hk]
    · rw [State.requestRefFaultClear_halted (s := others) hcondition hpending hk, State.arbitrate_of_not_free]
      simp [State.free, others, hscheduler]
    · rw [State.requestRefFaultClear_halted (s := others) hcondition hpending hk]

end
end Sys2Proof.Machine
end

section
/-! SUPPORT. Members and calibrations completed, and recoveries ended; and the statements on them. -/

namespace Sys2Proof.Machine

section
variable {s : State}

/-! ### A request that goes on -/

/-- A member's turn that passes the members `skipped`, all disabled, and starts the enabled one after them, written
out. -/
theorem State.goOn_starts_eq {p : Nat} {r : Request} {skipped rest : List (Fin 16)} {c : Fin 16}
    (hcurrent : s.seq.current = some r) (hlist : s.seq.members.drop p = skipped ++ c :: rest)
    (hskipped : ∀ e ∈ skipped, (s.channels[e]).enabled = false) (hc : (s.channels[c]).enabled = true) :
    s.goOn p =
      { s with
        ring := s.ring.handAll (s.skipDrafts r p skipped)
        seq := s.seq.settlingOn s.channels[c] (p + skipped.length)
        alerts := s.alerts.also (s.ring.abortFlags (s.skipDrafts r p skipped)) } := by
  rw [State.goOn_starts hcurrent hlist hskipped hc, State.skipMembers_eq]
  rfl

/-! ### The sample of a member -/

/-- The latest value of channel `c` set to `v`, sampled at the sampling instant (R125). -/
def State.told (c : Fin 16) (v : Word16) (s : State) : State :=
  { s with
    monitors :=
      s.monitors.set c { s.monitors[c] with latest := some { value := v, timestamp := s.seq.sampledAt } } }

/-- A channel put in the deviation set keeps the values that its condition compares (R126). -/
theorem State.deviates_evaluated (c : Fin 16) (s : State) :
    ({ s with monitors := s.evaluated c } : State).deviates c = s.deviates c := by
  unfold State.evaluated
  split
  · simp [State.deviates]
  · rfl

theorem State.recordSample_eq (c : Fin 16) (v : Word16) (s : State) :
    s.recordSample c v = { s with monitors := (s.told c v).evaluated c } := by
  rw [State.recordSample, State.evaluate_eq]
  rfl

/-- The SAMPLE entry of the member of channel `c` that completes with this raw code, with DEV the condition after its
latest value is set (R78, R125). -/
def State.completionDraft (raw : Word16) (r : Request) (c : Fin 16) (m : MemberSnapshot) (s : State) : Draft :=
  (s.told c (correct raw s.calibration[m.gain])).sampleDraft raw r c m

/-- The state between a member's completion and the next turn: its latest value, its evaluation and its entry. -/
def State.sampled (raw : Word16) (r : Request) (c : Fin 16) (m : MemberSnapshot) (s : State) : State :=
  { s with
    monitors := (s.told c (correct raw s.calibration[m.gain])).evaluated c
    ring := s.ring.hand (s.completionDraft raw r c m)
    seq := { s.seq with snapshot := none }
    alerts := s.alerts.also fun f => s.ring.full && decide (f = .ringLoss) }

/-- Flags set after a sample: RING_LOSS for its entry, and then theirs. -/
theorem State.sampled_also (raw : Word16) (r : Request) (c : Fin 16) (m : MemberSnapshot) (g : Flag → Bool)
    (s : State) :
    (s.sampled raw r c m).alerts.also g =
      s.alerts.also fun f => s.ring.full && decide (f = .ringLoss) || g f :=
  Alerts.also_also _ _ _

/-- All that a completion does before the turn of the member after it. -/
theorem State.completeMember_eq (raw : Word16) (r : Request) (c : Fin 16) (m : MemberSnapshot) (s : State) :
    s.completeMember raw r c m = (s.sampled raw r c m).goOn (s.seq.position + 1) := by
  have hdraft : (s.recordSample c (correct raw s.calibration[m.gain])).sampleDraft raw r c m =
      s.completionDraft raw r c m := by
    have hdeviates := State.deviates_evaluated c (s.told c (correct raw s.calibration[m.gain]))
    rw [State.recordSample_eq, State.completionDraft, State.sampleDraft, State.sampleDraft, ← hdeviates]
    rfl
  rw [State.completeMember, hdraft, State.recordSample_eq, State.produce_eq]
  rfl

/-- The completion of the member in flight. -/
theorem exec_conversionCompletion {r : Request} {c : Fin 16} {m : MemberSnapshot} (raw : Word16)
    (hk : s.seq.converter = .converting) (hcurrent : s.seq.current = some r)
    (hmember : s.seq.members[s.seq.position]? = some c) (hsnapshot : s.seq.snapshot = some m) :
    exec (.conversionCompletion raw) s = .next ((s.sampled raw r c m).goOn (s.seq.position + 1)) := by
  have hflight : s.seq.inFlight = some (r, c, m) := by
    simp only [Sequencer.inFlight, hcurrent, hmember, hsnapshot]
  have hrow : exec (.conversionCompletion raw) s = execConversionCompletion raw s := rfl
  rw [hrow, execConversionCompletion, hflight]
  simp only [hk, decide_true, State.occur_true, State.completeMember_eq]

/-- Settles O47: the sample and its entry, then the turn of the members left, which starts one or ends the request. -/
theorem membersAreSampledAndCompleted : Obligations.MembersAreSampledAndCompleted := by
  unfold Obligations.MembersAreSampledAndCompleted
  intro raw r c d skipped rest m s k told place entry skip drafts
  have hskips : (s.sampled raw r c m).skipDrafts r (s.seq.position + 1) skipped = skipped.mapIdx skip := rfl
  have hempty : (skipped.mapIdx skip).isEmpty = skipped.isEmpty :=
    State.skipDrafts_isEmpty r _ skipped (s.sampled raw r c m)
  have hloses : s.ring.loses drafts = (s.ring.full || (s.ring.hand entry).loses (skipped.mapIdx skip)) :=
    s.ring.loses_cons entry _
  refine ⟨fun hk => ?_, fun hk hcurrent hmember hsnapshot hskipped => ⟨fun hlist hd => ?_, fun hlist => ?_⟩⟩
  · have hrow : exec .endOfSettling s = s.occur (decide (s.seq.converter = .settling)) s.settle := rfl
    rw [hrow, decide_eq_true hk, State.occur_true]
    rfl
  · rw [exec_conversionCompletion raw hk hcurrent hmember hsnapshot,
      State.goOn_starts_eq (s := s.sampled raw r c m) hcurrent hlist hskipped hd, hskips, State.sampled_also,
      Alerts.also_congr]
    · rfl
    · intro f
      cases f with
      | ringLoss => exact (congrArg (· || _) (Bool.and_true _)).trans hloses.symm
      | aborted => simp [Ring.abortFlags, hempty]
      | immDone | cadOverrun | trgOverrun | calDone | calFail | refFault | cmdError | runChange =>
        cases s.ring.full <;> rfl
  · have hposition : (if skipped.isEmpty then (s.sampled raw r c m).seq.position
        else s.seq.position + 1 + (skipped.length - 1)) = s.seq.position + skipped.length := by
      cases skipped with
      | nil => rfl
      | cons e skipped => simp; omega
    rw [exec_conversionCompletion raw hk hcurrent hmember hsnapshot,
      State.goOn_ends_eq (s := s.sampled raw r c m) hcurrent hlist hskipped, hskips, hposition, State.sampled_also,
      Alerts.also_congr]
    · rfl
    · intro f
      cases f with
      | ringLoss => exact (congrArg (· || _) (Bool.and_true _)).trans hloses.symm
      | aborted => simp [Ring.endFlags, hempty]
      | runChange | immDone | cadOverrun | trgOverrun | calDone | calFail | refFault | cmdError =>
        cases s.ring.full <;> rfl

/-! ### Calibrations -/

theorem CalRecord.after_none (kind : CalKind) (now : Word32) (r : CalRecord) :
    r.after kind none now = { r with validity := .failed } := by
  cases kind <;> rfl

theorem CalRecord.after_some (kind : CalKind) (v : Word16) (now : Word32) (r : CalRecord) :
    r.after kind (some v) now =
      if kind = .offset then
        { validity := .calibrated, offset := v, gain := r.gain, calibratedAt := some now }
      else { validity := .calibrated, offset := r.offset, gain := v, calibratedAt := some now } := by
  cases kind <;> rfl

/-- The flags of a completed calibration (R79, R99, R112, R147). -/
def State.calFlags (succeeds : Bool) (s : State) : Flag → Bool
  | .calDone => succeeds
  | .calFail => !succeeds
  | .ringLoss => s.ring.full
  | .runChange => decide (s.scheduler = .pausing)
  | _ => false

/-- All that the completion of a calibration with this outcome does before its arbitration. -/
theorem State.completeCalibration_eq {request : Merged CalTarget} {raw : Word16} {outcome : Option Word16}
    (hcurrent : s.seq.current = some (.maintenance request))
    (houtcome : calOutcome request.target.kind raw s.calibration[request.target.gain] = outcome) :
    s.completeCalibration raw request = ({ s with
      calibration := s.calibration.set request.target.gain
        ((s.calibration[request.target.gain]).after request.target.kind outcome s.timebase)
      ring := s.ring.hand (calDraft request outcome s.timebase)
      seq := s.seq.ended .idle
      scheduler := s.scheduler.afterEnd true
      alerts := s.alerts.also (s.calFlags outcome.isSome) } : State).arbitrate := by
  rw [State.completeCalibration, houtcome, State.endRequest_eq, State.produce_eq, State.raise_eq]
  simp only [Alerts.also_also, Sequencer.holdsImmediate, hcurrent, Option.any_some, Request.isImmediate]
  rw [Alerts.also_congr (g := s.calFlags outcome.isSome)]
  intro f
  cases f with
  | calDone | calFail => cases outcome <;> simp [State.calFlags]
  | runChange | ringLoss | immDone | cadOverrun | trgOverrun | refFault | aborted | cmdError =>
    cases outcome <;> simp [State.calFlags]

/-- Settles O48: the record, the flag, the entry and the end of the request, with the outcome's two cases. -/
theorem calibrationsComplete : Obligations.CalibrationsComplete := by
  unfold Obligations.CalibrationsComplete
  intro raw request s hk hcurrent g record outcome after entry
  have hrow : exec (.calibrationCompletion raw) s = execCalibrationCompletion raw s := rfl
  have hafter : record.after request.target.kind outcome s.timebase = after := by
    simp only [after]
    clear_value outcome
    cases outcome with
    | none => exact record.after_none _ _
    | some v => exact record.after_some _ _ _
  rw [hrow, execCalibrationCompletion, hcurrent]
  simp only [hk, decide_true, State.occur_true]
  rw [State.completeCalibration_eq (outcome := outcome) hcurrent rfl, hafter,
    Alerts.also_congr (f := s.calFlags outcome.isSome)]
  · rfl
  · intro f
    cases f with
    | calFail => exact Option.not_isSome _
    | calDone | ringLoss | runChange | immDone | cadOverrun | trgOverrun | refFault | aborted | cmdError => rfl

/-! ### Recoveries -/

theorem State.endRecovery_halts (h : s.seq.haltPending = true) :
    s.endRecovery = { s with seq := { s.seq with converter := .halted, haltPending := false } } := by
  simp [State.endRecovery, h]

theorem State.endRecovery_goesOn (h : s.seq.haltPending = false) {r : Request} (hcurrent : s.seq.current = some r) :
    s.endRecovery = s.goOn s.seq.position := by
  simp [State.endRecovery, h, hcurrent]

theorem State.endRecovery_idles (h : s.seq.haltPending = false) (hcurrent : s.seq.current = none) :
    s.endRecovery = ({ s with seq := { s.seq with converter := .idle } } : State).arbitrate := by
  simp [State.endRecovery, h, hcurrent]

/-- Settles O49: the pending halt, the turn of the group's members left, or the release of the converter. -/
theorem recoveriesEnd : Obligations.RecoveriesEnd := by
  unfold Obligations.RecoveriesEnd
  intro r c skipped rest s hk skip drafts
  have hexec : exec .endOfRecovery s = .next s.endRecovery := by
    have hrow : exec .endOfRecovery s = s.occur (decide (s.seq.converter = .recovering)) s.endRecovery := rfl
    rw [hrow, decide_eq_true hk, State.occur_true]
  have hdrafts : s.skipDrafts r s.seq.position skipped = drafts := rfl
  have hempty : drafts.isEmpty = skipped.isEmpty := s.skipDrafts_isEmpty r _ _
  rw [hexec]
  refine ⟨fun hhalt => ?_, fun hpending hcurrent hskipped => ⟨fun hlist hc => ?_, fun hlist hsome => ?_⟩,
    fun hpending hcurrent => ?_⟩
  · rw [State.endRecovery_halts hhalt]
  · rw [State.endRecovery_goesOn hpending hcurrent, State.goOn_starts_eq hcurrent hlist hskipped hc, hdrafts,
      Alerts.also_congr (f := s.ring.abortFlags drafts)]
    intro f
    cases f with
    | aborted => exact congrArg not hempty
    | ringLoss | immDone | cadOverrun | trgOverrun | calDone | calFail | refFault | cmdError | runChange => rfl
  · have hposition : (if skipped.isEmpty then s.seq.position else s.seq.position + (skipped.length - 1)) =
        s.seq.position + skipped.length - 1 := by
      have hlength := List.length_pos_iff.mpr hsome
      rw [if_neg (by simpa using hsome)]
      omega
    rw [State.endRecovery_goesOn hpending hcurrent, State.goOn_ends_eq hcurrent hlist hskipped, hdrafts, hposition,
      Alerts.also_congr (f := s.ring.endFlags drafts r s.scheduler)]
    intro f
    cases f with
    | aborted => simp [Ring.endFlags, hempty, hsome]
    | ringLoss | immDone | cadOverrun | trgOverrun | calDone | calFail | refFault | cmdError | runChange => rfl
  · rw [State.endRecovery_idles hpending hcurrent]

end
end Sys2Proof.Machine
end

section
/-! SUPPORT. The arithmetic of the Result Stage and of the Calibration Unit; and the statements on the corrected value and
on the outcomes of calibrations. -/

namespace Sys2Proof.Machine

/-! ### Rounding -/

/-- The rounded quotient is a nearest integer, and at a half the one further from zero (R102). -/
theorem roundAway_nearest (n : Int) {d : Nat} (hd : 0 < d) :
    (2 * (n - roundAway n d * d)).natAbs ≤ d ∧ (2 * (n - roundAway n d * d) = d → n < 0)
      ∧ (2 * (n - roundAway n d * d) = -d → 0 < n) := by
  have hlow := Int.ediv_mul_le (2 * n.natAbs + d : Int) (show (2 * d : Int) ≠ 0 by omega)
  have hhigh := Int.lt_ediv_add_one_mul_self (2 * n.natAbs + d : Int) (show (0 : Int) < 2 * d by omega)
  have hzero : n = 0 → (2 * n.natAbs + d : Int) / (2 * d) * d = 0 := by
    rintro rfl
    rw [Int.ediv_eq_zero_of_lt (by omega) (by omega), zero_mul]
  unfold roundAway
  generalize (2 * n.natAbs + d : Int) / (2 * d) = m at hlow hhigh hzero
  have hdouble : m * (2 * d) = 2 * (m * d) := by ring
  rw [hdouble] at hlow
  rw [add_mul, one_mul, hdouble] at hhigh
  by_cases hn : n < 0
  · simp only [if_pos hn, neg_mul]
    generalize m * (d : Int) = k at hlow hhigh hzero
    omega
  · simp only [if_neg hn]
    generalize m * (d : Int) = k at hlow hhigh hzero
    omega

/-- A multiple is its own quotient. -/
theorem roundAway_mul (x : Int) {d : Nat} (hd : 0 < d) : roundAway (x * d) d = x := by
  obtain ⟨hnear, -, -⟩ := roundAway_nearest (x * d) hd
  rw [← sub_mul] at hnear
  by_contra hne
  have hone : 1 ≤ (x - roundAway (x * d) d).natAbs := by omega
  have hd' : d ≤ ((x - roundAway (x * d) d) * d).natAbs := by
    rw [Int.natAbs_mul, Int.natAbs_natCast]
    exact Nat.le_mul_of_pos_left d hone
  omega

/-! ### The clip -/

theorem clipCode_eq (v : Int) : clipCode v = if v < -32768 then -32768 else if 32767 < v then 32767 else v := by
  unfold clipCode
  split_ifs <;> omega

/-- The clip changes exactly the values out of range. -/
theorem clipCode_ne_iff (v : Int) : clipCode v ≠ v ↔ v < -32768 ∨ 32767 < v := by
  unfold clipCode
  omega

/-- A value in the range of a signed code is its code's. -/
theorem toInt_ofInt_of_code {v : Int} (hlow : -32768 ≤ v) (hhigh : v ≤ 32767) : (BitVec.ofInt 16 v).toInt = v :=
  BitVec.toInt_ofInt_eq_self (by decide) hlow (Int.lt_add_one_of_le hhigh)

/-- The corrected code is the scaled value clipped. -/
theorem correct_toInt (raw : Word16) (r : CalRecord) : (correct raw r).toInt = clipCode (scaled raw r) :=
  toInt_ofInt_of_code (le_max_left _ _) (max_le (by decide) (min_le_left _ _))

theorem clipFlag_iff (raw : Word16) (r : CalRecord) :
    clipFlag raw r = true ↔
      raw.toNat = 0 ∨ raw.toNat = 65535 ∨ scaled raw r < -32768 ∨ 32767 < scaled raw r := by
  rw [clipFlag, decide_eq_true_iff, clipCode_ne_iff, ← BitVec.toNat_inj, ← BitVec.toNat_inj]
  rfl

/-- The nominal constants only take midscale from the raw code. -/
theorem scaled_nominal (raw : Word16) : scaled raw .nominal = (raw.toNat : Int) - 32768 :=
  (roundAway_mul (centred raw .nominal) (d := 32768) (by decide)).trans (sub_zero _)

/-- Settles O53: the scaled value is the integer asked for, and its clip the corrected value. -/
theorem correctionRoundsThenClips : Obligations.CorrectionRoundsThenClips := by
  unfold Obligations.CorrectionRoundsThenClips
  intro raw r x p
  have hraw := raw.isLt
  refine ⟨?_, ⟨scaled raw r, ?_⟩, ?_⟩
  · rintro ⟨⟨hlow, hhigh⟩, -⟩
    omega
  · obtain ⟨hnear, hup, hdown⟩ := roundAway_nearest p (d := 32768) (by decide)
    exact ⟨hnear, hup, hdown, (correct_toInt raw r).trans (clipCode_eq _), clipFlag_iff raw r⟩
  · rw [correct_toInt, scaled_nominal, clipCode_eq]
    split_ifs <;> omega

/-! ### The outcomes of calibrations -/

/-- The candidate of an OFFSET calibration is stored exactly when it is in range (R97). -/
theorem calOutcome_offset (raw : Word16) (r : CalRecord) :
    calOutcome .offset raw r =
      if 30720 ≤ raw.toNat ∧ raw.toNat ≤ 34816 then some (BitVec.ofInt 16 ((raw.toNat : Int) - 32768)) else none := by
  have hrange : (-Config.offsetLimit ≤ (raw.toNat : Int) - Config.midscale
      ∧ (raw.toNat : Int) - Config.midscale ≤ Config.offsetLimit) ↔ 30720 ≤ raw.toNat ∧ raw.toNat ≤ 34816 := by
    simp only [Config.offsetLimit, Config.midscale]
    omega
  exact if_congr hrange rfl rfl

/-- The candidate of a span is `24576 * 32768` over it, rounded with halves up (R98). -/
theorem gainCandidate_nearest {d : Nat} (hd : 0 < d) :
    gainCandidate d * (2 * d) ≤ 2 * (24576 * 32768) + d
      ∧ 2 * (24576 * 32768) + d < (gainCandidate d + 1) * (2 * d) :=
  ⟨Nat.div_mul_le_self _ _, Nat.lt_mul_of_div_lt (Nat.lt_succ_self _) (by omega)⟩

/-- The candidate is in range exactly for spans near the ideal one (R98). -/
theorem gainCandidate_inRange_iff {d : Nat} (hd : 0 < d) :
    29491 ≤ gainCandidate d ∧ gainCandidate d ≤ 36045 ↔ 22342 ≤ d ∧ d ≤ 27307 := by
  have hpos : 0 < 2 * d := by omega
  rw [gainCandidate, Nat.le_div_iff_mul_le hpos, Nat.div_le_iff_le_mul_add_pred hpos]
  simp only [Config.idealSpan, Config.unityGain]
  omega

/-- The candidate of a GAIN calibration is stored exactly for spans near the ideal one (R98). -/
theorem calOutcome_gain (raw : Word16) (r : CalRecord) :
    calOutcome .gain raw r =
      if 22342 ≤ centred raw r ∧ centred raw r ≤ 27307 then
        some (BitVec.ofNat 16 (gainCandidate (centred raw r).toNat)) else none := by
  unfold calOutcome
  dsimp only
  split
  · next hd => rw [if_neg (by omega)]
  · next hd =>
    have hrange := gainCandidate_inRange_iff (d := (centred raw r).toNat) (by omega)
    refine if_congr (hrange.trans ?_) rfl rfl
    omega

/-- A stored OFFSET constant is the raw code less midscale (R97). -/
theorem toInt_of_calOutcome_offset {raw : Word16} {r : CalRecord} {v : Word16} (h : calOutcome .offset raw r = some v) :
    (30720 ≤ raw.toNat ∧ raw.toNat ≤ 34816) ∧ v.toInt = (raw.toNat : Int) - 32768 := by
  rw [calOutcome_offset, Option.ite_none_right_eq_some] at h
  obtain ⟨hrange, hv⟩ := h
  cases hv
  exact ⟨hrange, toInt_ofInt_of_code (by omega) (by omega)⟩

/-- A stored GAIN constant is the candidate of its span (R98). -/
theorem toNat_of_calOutcome_gain {raw : Word16} {r : CalRecord} {v : Word16} (h : calOutcome .gain raw r = some v) :
    ∃ d : Nat, centred raw r = d ∧ 0 < d ∧ v.toNat = gainCandidate d ∧ 29491 ≤ v.toNat ∧ v.toNat ≤ 36045 := by
  rw [calOutcome_gain, Option.ite_none_right_eq_some] at h
  obtain ⟨hrange, hv⟩ := h
  cases hv
  have hpos : 0 < (centred raw r).toNat := by omega
  obtain ⟨hlow, hhigh⟩ := (gainCandidate_inRange_iff hpos).mpr (by omega)
  have hv : (BitVec.ofNat 16 (gainCandidate (centred raw r).toNat)).toNat = gainCandidate (centred raw r).toNat :=
    Nat.mod_eq_of_lt (by omega)
  exact ⟨_, by omega, hpos, hv, by omega, by omega⟩

/-- Settles O54: when an outcome is present, by its two equations, and which constant it then is. -/
theorem calibrationOutcomes : Obligations.CalibrationOutcomes := by
  unfold Obligations.CalibrationOutcomes
  intro raw r d
  refine ⟨?_, fun v h => (toInt_of_calOutcome_offset h).2, ?_, fun v h => ?_⟩
  · rw [calOutcome_offset, Option.isSome_ite]
  · rw [calOutcome_gain, Option.isSome_ite]
    rfl
  · obtain ⟨span, hspan, hpos, hv, hlow, hhigh⟩ := toNat_of_calOutcome_gain h
    have hd : d = span := hspan
    obtain ⟨hbelow, habove⟩ := gainCandidate_nearest hpos
    refine ⟨hlow, hhigh, ?_⟩
    rw [hd, hv]
    zify at hbelow habove
    constructor <;> linarith

end Sys2Proof.Machine
end

section
/-! SUPPORT. The calibration records along the rows: only POR and the completion of a calibration change them; and the
statement that their ranges are kept. -/

namespace Sys2Proof.Machine

section
variable (s : State)

/-! ### The record after a calibration -/

/-- A calibration stores a constant in its range or keeps the old ones (R95 to R98). -/
theorem CalRecord.Valid.after {r : CalRecord} (h : r.Valid) (kind : CalKind) (raw : Word16) (now : Word32) :
    (r.after kind (calOutcome kind raw r) now).Valid := by
  obtain ⟨hoffset, hgain, -⟩ := h
  cases houtcome : calOutcome kind raw r with
  | none =>
    rw [CalRecord.after_none]
    exact ⟨hoffset, hgain, nofun, nofun⟩
  | some v =>
    rw [CalRecord.after_some]
    cases kind with
    | offset =>
      obtain ⟨⟨hlow, hhigh⟩, hv⟩ := toInt_of_calOutcome_offset houtcome
      rw [if_pos rfl]
      exact ⟨by dsimp only; omega, hgain, nofun, fun _ => rfl⟩
    | gain =>
      obtain ⟨-, -, -, -, hrange⟩ := toNat_of_calOutcome_gain houtcome
      rw [if_neg nofun]
      exact ⟨hoffset, hrange, nofun, fun _ => rfl⟩

/-! ### The shared operations -/

theorem State.ServesOnly.calibration_eq {s t : State} (h : s.ServesOnly t) : t.calibration = s.calibration := by
  have k := congrArg State.calibration h
  exact k

@[simp] theorem State.endRequest_calibration (k : Converter) : (s.endRequest k).calibration = s.calibration := by
  rw [State.endRequest_eq]

@[simp] theorem State.arbitrate_calibration : s.arbitrate.calibration = s.calibration :=
  s.arbitrate_servesOnly.calibration_eq

@[simp] theorem State.goOn_calibration (p : Nat) : (s.goOn p).calibration = s.calibration := by
  have hturn := (State.takeTurn_servesOnly p s).calibration_eq
  unfold State.goOn
  split
  · next t h => rw [h] at hturn; exact hturn
  · next t h => rw [h] at hturn; simpa using hturn

@[simp] theorem State.abortWork_endPausing_calibration (reason : AbortReason) (k : Converter) :
    (s.abortWork reason k).endPausing.calibration = s.calibration := by
  rw [State.abortWork_endPausing, State.endRequest_calibration]
  rfl

@[simp] theorem State.expire_calibration (c : Fin 16) : (s.expire c).calibration = s.calibration :=
  (State.expire_frame c s).calibration_eq

@[simp] theorem State.takeExpiries_calibration : s.takeExpiries.calibration = s.calibration := by
  unfold State.takeExpiries
  refine List.foldlRecOn (motive := fun t : State => t.calibration = s.calibration) channelOrder _ rfl fun t ht c _ => ?_
  split
  · rw [State.expire_calibration, ht]
  · exact ht

@[simp] theorem State.acceptTrigger_calibration (i : Fin 2) : (s.acceptTrigger i).calibration = s.calibration :=
  (State.acceptTrigger_frame i s).calibration_eq

@[simp] theorem State.evaluate_calibration (c : Fin 16) : (s.evaluate c).calibration = s.calibration := by
  rw [State.evaluate_eq]

@[simp] theorem State.putReference_calibration (c : Fin 16) (f : Option Word16) :
    (s.putReference c f).calibration = s.calibration := by
  rw [State.putReference_eq]

/-! ### Run control and the commands that post -/

theorem State.startCommand_calibration : s.startCommand.state.calibration = s.calibration := by
  unfold State.startCommand
  split
  · simp [State.armAll]
  · rfl

theorem State.pauseCommand_calibration : s.pauseCommand.state.calibration = s.calibration := by
  unfold State.pauseCommand
  split
  · split <;> rfl
  all_goals rfl

theorem State.resumeCommand_calibration : s.resumeCommand.state.calibration = s.calibration := by
  unfold State.resumeCommand
  split
  case h_2 => simp
  all_goals rfl

theorem State.stopCommand_calibration : s.stopCommand.state.calibration = s.calibration := by
  cases haccepts : s.scheduler.accepts with
  | true => rw [State.stopCommand_eq haccepts]; rfl
  | false => simp [State.stopCommand, haccepts]

theorem State.abortCommand_calibration : s.abortCommand.state.calibration = s.calibration := by
  unfold State.abortCommand
  split <;> simp

theorem State.postCommand_calibration : s.postCommand.state.calibration = s.calibration := by
  unfold State.postCommand
  split
  · rfl
  · split
    · rfl
    · dsimp only
      split_ifs
      case neg => exact (State.postImmediate_servesOnly _ s).calibration_eq
      all_goals rfl

theorem State.softTriggerCommand_calibration : s.softTriggerCommand.state.calibration = s.calibration := by
  unfold State.softTriggerCommand
  split
  · rfl
  · split
    · rfl
    · split_ifs <;> simp

theorem State.calibrateCommand_calibration : s.calibrateCommand.state.calibration = s.calibration := by
  unfold State.calibrateCommand
  split_ifs
  case neg =>
    exact List.foldlRecOn (motive := fun t : State => t.calibration = s.calibration) _ _ rfl fun t ht m _ =>
      (State.postMaintenance_servesOnly m t).calibration_eq.trans ht
  all_goals rfl

/-! ### Table access and the other commands -/

theorem State.recadence_calibration (i : Fin 16) (old : ChannelRecord) :
    (s.recadence i old).calibration = s.calibration := by
  rw [State.recadence_eq]
  split_ifs
  case neg => unfold State.arm; split <;> simp
  all_goals rfl

theorem State.storeChannel_calibration (i : Fin 16) (new : ChannelRecord) :
    (s.storeChannel i new).calibration = s.calibration := by
  unfold State.storeChannel
  dsimp only
  rw [State.evaluate_calibration, State.recadence_calibration]
  split
  · rw [State.disable_eq]
  · rfl

theorem State.writeTableCommand_calibration : s.writeTableCommand.state.calibration = s.calibration := by
  unfold State.writeTableCommand
  split
  · unfold State.writeChannel
    split
    · rfl
    · exact s.storeChannel_calibration _ _
  · unfold State.writeGroup
    split
    · rfl
    · split_ifs <;> rfl
  · unfold State.writeTrigger
    split
    · rfl
    · split_ifs <;> rfl
  · unfold State.writePhase
    split <;> rfl
  all_goals rfl

theorem State.readTableCommand_calibration : s.readTableCommand.state.calibration = s.calibration := by
  unfold State.readTableCommand
  split
  · rfl
  · rw [State.accept_state]

theorem State.swapCommand_calibration : s.swapCommand.state.calibration = s.calibration := by
  unfold State.swapCommand
  split_ifs <;> rfl

theorem State.releaseCommand_calibration : s.releaseCommand.state.calibration = s.calibration := by
  unfold State.releaseCommand
  split
  · rfl
  · dsimp only
    split_ifs <;> rfl

theorem State.configCommand_calibration : s.configCommand.state.calibration = s.calibration := by
  unfold State.configCommand
  dsimp only
  split
  · rfl
  · split_ifs <;> rfl

theorem State.setReferenceCommand_calibration : s.setReferenceCommand.state.calibration = s.calibration := by
  unfold State.setReferenceCommand
  split
  · rfl
  · split_ifs <;> simp

theorem State.setTickCommand_calibration : s.setTickCommand.state.calibration = s.calibration := by
  unfold State.setTickCommand
  split_ifs <;> rfl

/-! ### Registers and events -/

theorem State.clearFlagsHigh_calibration (v : Byte) : (s.clearFlagsHigh v).calibration = s.calibration := by
  unfold State.clearFlagsHigh State.requestRefFaultClear
  dsimp only
  split_ifs <;> simp

theorem State.requestDeviationClear_calibration (k : Nat) (v : Byte) :
    (s.requestDeviationClear k v).calibration = s.calibration := by
  rw [State.requestDeviationClear]

theorem State.storeByte_calibration (a v : Byte) : (s.storeByte a v).calibration = s.calibration := by
  unfold State.storeByte
  dsimp only
  split_ifs <;> rfl

theorem State.csnFalls_calibration (sclkHigh : Bool) : (s.csnFalls sclkHigh).calibration = s.calibration := by
  unfold State.csnFalls
  split <;> rfl

theorem State.leaveStarting_calibration : s.leaveStarting.calibration = s.calibration := by
  unfold State.leaveStarting
  dsimp only
  split <;> rfl

theorem State.tick_calibration : s.tick.calibration = s.calibration := by
  simp [State.tick]

theorem State.changeLevel_calibration (i : Fin 2) (level : Bool) :
    (s.changeLevel i level).calibration = s.calibration := by
  unfold State.changeLevel
  dsimp only
  split_ifs <;> simp

theorem State.haltForReference_calibration : s.haltForReference.calibration = s.calibration := by
  unfold State.haltForReference
  split
  case h_4 => dsimp only; split <;> simp
  case h_5 | h_6 => rfl
  all_goals simp

theorem State.completeMember_calibration (raw : Word16) (r : Request) (c : Fin 16) (m : MemberSnapshot) :
    (s.completeMember raw r c m).calibration = s.calibration := by
  unfold State.completeMember
  simp [State.recordSample, State.produce_eq]

theorem State.endRecovery_calibration : s.endRecovery.calibration = s.calibration := by
  unfold State.endRecovery
  split_ifs <;> simp

/-! ### Every row -/

/-- The row of a command that leaves the calibration records. -/
theorem State.commandRow_calibration (b : Bool) (code : Byte) {f : State → Answer}
    (hf : ∀ t : State, (f t).state.calibration = t.calibration) :
    Leaves (fun t => t.calibration = s.calibration) (s.occur b (s.takeCommand code f)) := by
  refine leaves_occur rfl fun _ => ?_
  by_cases hs : s.scheduler = .starting
  · rw [State.takeCommand_starting _ _ _ hs, State.answered_calibration]
  · rw [State.takeCommand_eq _ _ _ hs, Answer.leave_eq]
    exact hf s.advance

/-- A register byte that leaves the calibration records. -/
theorem State.takeRegister_calibration {f : State → State} (hf : ∀ t : State, (f t).calibration = t.calibration) :
    (s.takeRegister f).calibration = s.calibration := by
  rw [State.takeRegister_eq]
  split
  · rfl
  · exact hf s.advance

/-- Every row but POR and the completion of a calibration leaves the calibration records (R94, R95). -/
theorem exec_calibration (i : Instr) (hpor : i ≠ .por) (hcompletion : ∀ raw, i ≠ .calibrationCompletion raw) :
    Leaves (fun t => t.calibration = s.calibration) (exec i s) := by
  cases i with
  | por => exact absurd rfl hpor
  | calibrationCompletion raw => exact absurd rfl (hcompletion raw)
  | start => exact s.commandRow_calibration _ _ State.startCommand_calibration
  | pause => exact s.commandRow_calibration _ _ State.pauseCommand_calibration
  | resume => exact s.commandRow_calibration _ _ State.resumeCommand_calibration
  | stop => exact s.commandRow_calibration _ _ State.stopCommand_calibration
  | abortCurrent => exact s.commandRow_calibration _ _ State.abortCommand_calibration
  | post => exact s.commandRow_calibration _ _ State.postCommand_calibration
  | softTrigger => exact s.commandRow_calibration _ _ State.softTriggerCommand_calibration
  | calibrate => exact s.commandRow_calibration _ _ State.calibrateCommand_calibration
  | tableRead => exact s.commandRow_calibration _ _ State.readTableCommand_calibration
  | tableWrite => exact s.commandRow_calibration _ _ State.writeTableCommand_calibration
  | swapBanks => exact s.commandRow_calibration _ _ State.swapCommand_calibration
  | ringRelease => exact s.commandRow_calibration _ _ State.releaseCommand_calibration
  | ringClear => exact s.commandRow_calibration _ _ fun _ => rfl
  | ringConfig => exact s.commandRow_calibration _ _ State.configCommand_calibration
  | setReference => exact s.commandRow_calibration _ _ State.setReferenceCommand_calibration
  | setTick => exact s.commandRow_calibration _ _ State.setTickCommand_calibration
  | unknownCommandCode code => exact s.commandRow_calibration _ _ fun _ => rfl
  | deviceReset =>
    refine leaves_occur rfl fun _ => ?_
    unfold State.resetCommand
    split
    · next hs => rw [State.takeCommand_starting _ _ _ hs, State.answered_calibration]
    · rfl
  | clearLatchedFlag value =>
    exact leaves_either rfl (s.takeRegister_calibration fun _ => rfl)
      (s.takeRegister_calibration fun t => t.clearFlagsHigh_calibration value)
  | refFaultClear value =>
    exact leaves_occur rfl fun _ => s.takeRegister_calibration fun t => t.clearFlagsHigh_calibration value
  | alertEnableWrite value =>
    exact leaves_either rfl (s.takeRegister_calibration fun _ => rfl) (s.takeRegister_calibration fun _ => rfl)
  | alertMasterWrite value => exact leaves_occur rfl fun _ => s.takeRegister_calibration fun _ => rfl
  | deviationSetClearRequest value =>
    exact leaves_either rfl (s.takeRegister_calibration fun t => t.requestDeviationClear_calibration 0 value)
      (s.takeRegister_calibration fun t => t.requestDeviationClear_calibration 1 value)
  | registerWrite value =>
    exact leaves_occur rfl fun _ => s.takeRegister_calibration fun t => t.storeByte_calibration _ value
  | acknowledgingRead partialBits =>
    refine leaves_occur rfl fun _ => ?_
    obtain ⟨v, hv⟩ := s.acknowledge_frame
    rw [hv]
    rfl
  | rstnLow | referenceRecovery => exact leaves_next rfl
  | readSnapshot | rstnRise | supplyEstablished | holdoffEnd | endOfSettling | headerByte | writeAddressByte | readDataByte
    | csnRise => exact leaves_occur rfl fun _ => rfl
  | endOfStarting => exact leaves_occur rfl fun _ => s.leaveStarting_calibration
  | tick => exact leaves_occur rfl fun _ => s.tick_calibration
  | cadenceExpiry channel => exact leaves_occur rfl fun _ => s.expire_calibration channel
  | triggerEdge input level => exact leaves_occur rfl fun _ => s.changeLevel_calibration input level
  | referenceOnset =>
    refine leaves_next ?_
    dsimp only
    split
    · rfl
    · exact State.haltForReference_calibration _
  | conversionCompletion raw =>
    simp only [exec, execConversionCompletion]
    split
    · exact leaves_occur rfl fun _ => s.completeMember_calibration raw _ _ _
    · exact leaves_next rfl
  | endOfRecovery => exact leaves_occur rfl fun _ => s.endRecovery_calibration
  | csnFall sclkHigh => exact leaves_occur rfl fun _ => s.csnFalls_calibration sclkHigh

variable {s}

/-- The completion of a calibration replaces one record by a valid one. -/
theorem State.CalibrationValid.completeCalibration (h : s.CalibrationValid) {request : Merged CalTarget}
    (hcurrent : s.seq.current = some (.maintenance request)) (raw : Word16) :
    (s.completeCalibration raw request).CalibrationValid := by
  intro g
  rw [State.completeCalibration_eq hcurrent rfl, State.arbitrate_calibration]
  by_cases hg : request.target.gain = g
  · subst hg
    simpa using (h request.target.gain).after request.target.kind raw s.timebase
  · simpa [Fin.val_ne_iff.mpr hg] using h g

/-- Each of the 46 rows keeps the calibration records valid. -/
theorem exec_keeps_calibrationValid (i : Instr) (s : State) (h : s.CalibrationValid) :
    Leaves State.CalibrationValid (exec i s) := by
  by_cases hpor : i = .por
  · subst hpor
    refine leaves_next fun g => ?_
    simp only [Fin.getElem_fin, Vector.getElem_replicate]
    decide
  · by_cases hcompletion : ∃ raw, i = .calibrationCompletion raw
    · obtain ⟨raw, rfl⟩ := hcompletion
      simp only [exec, execCalibrationCompletion]
      split
      · next hcurrent => exact leaves_occur h fun _ => h.completeCalibration hcurrent raw
      · exact leaves_next h
    · intro t ht
      have hkept : t.calibration = s.calibration :=
        exec_calibration s i hpor (fun raw hraw => hcompletion ⟨raw, hraw⟩) t ht
      unfold State.CalibrationValid
      rw [hkept]
      exact h

end

/-- Settles O56: every row keeps the records valid, and that does not speak of the rows to come. -/
theorem calibrationRecordsStayValid : Obligations.CalibrationRecordsStayValid :=
  fun _ _ hs h => step_keeps (fun _ _ ht => ht) exec_keeps_calibrationValid hs h

end Sys2Proof.Machine
end

section
/-! SUPPORT. The Result Ring by its operations: which entries it then holds, and that it keeps its form. -/

namespace Sys2Proof.Machine

section
variable {r : Ring}

/-! ### The entries held -/

/-- An entry held after a hand-over was held before it, or is the one handed over. -/
theorem Ring.mem_hand {d : Draft} {e : Entry} (h : e ∈ (r.hand d).entries) : e ∈ r.entries ∨ e.draft = d := by
  have hplace {q : Ring} (hq : e ∈ (q.place d).entries) : e ∈ q.entries ∨ e.draft = d :=
    (List.mem_append.mp hq).imp_right fun he => by rw [List.mem_singleton.mp he]
  obtain ⟨-, hhand⟩ | ⟨-, -, hhand⟩ | ⟨-, -, hhand⟩ := r.hand_cases d <;> rw [hhand] at h
  · exact hplace h
  · exact .inl h
  · exact (hplace h).imp_left List.mem_of_mem_drop

theorem Ring.mem_handAll {ds : List Draft} {e : Entry} (h : e ∈ (r.handAll ds).entries) :
    e ∈ r.entries ∨ e.draft ∈ ds := by
  induction ds generalizing r with
  | nil => exact .inl h
  | cons d ds ih =>
    obtain h | h := ih h
    · exact (Ring.mem_hand h).imp_right fun he => by simp [he]
    · exact .inr (List.mem_cons_of_mem d h)

/-! ### The form -/

/-- Entries removed from the head leave the numbers of the rest running to the next one. -/
theorem Ring.Form.drop (h : r.Form) (n : Nat) : Ring.Form { r with entries := r.entries.drop n } := by
  obtain ⟨hlength, hlow, hhigh, hloss, hseq⟩ := h
  refine ⟨(List.drop_sublist n _).length_le.trans hlength, hlow, hhigh,
    fun e he => hloss e (List.mem_of_mem_drop he), fun k hk => ?_⟩
  dsimp only at hk ⊢
  rw [List.length_drop] at hk ⊢
  rw [List.getElem_drop, hseq, Nat.sub_sub]

/-- An entry placed in a ring with room takes the next number, one after the last entry's. -/
theorem Ring.Form.place (h : r.Form) (d : Draft) (hroom : r.entries.length < 64) : (r.place d).Form := by
  obtain ⟨-, hlow, hhigh, hloss, hseq⟩ := h
  refine ⟨?_, hlow, hhigh, fun e he => ?_, fun k hk => ?_⟩
  · simpa [Ring.place, Config.ringCapacity] using hroom
  · obtain he | he := List.mem_append.mp he
    · exact hloss e he
    · rw [List.mem_singleton.mp he]
      split <;> simp_all
  · have hone (n : Nat) : r.nextSeq + 1 - BitVec.ofNat 16 (n + 1) = r.nextSeq - BitVec.ofNat 16 n := by
      rw [BitVec.ofNat_add]
      exact add_sub_add_right_eq_sub r.nextSeq (BitVec.ofNat 16 n) 1
    simp only [Ring.place, List.length_append, List.length_singleton] at hk ⊢
    rw [List.getElem_append]
    split
    · next hold => rw [hseq k hold, ← hone, Nat.sub_add_comm (by omega)]
    · next hnew =>
      have hlast : r.entries.length + 1 - k = 0 + 1 := by omega
      rw [hlast, hone]
      simp

/-- A hand-over keeps the form in each of its three cases. -/
theorem Ring.Form.hand (h : r.Form) (d : Draft) : (r.hand d).Form := by
  obtain ⟨hroom, hhand⟩ | ⟨-, -, hhand⟩ | ⟨hfull, -, hhand⟩ := r.hand_cases d <;> rw [hhand]
  · exact h.place d hroom
  · exact h
  · have hdropped : r.dropHead.Form := h.drop 1
    refine hdropped.place d ?_
    have := h.1
    simp only [Ring.dropHead, List.length_drop, Config.ringCapacity] at this ⊢
    omega

theorem Ring.Form.handAll (h : r.Form) (ds : List Draft) : (r.handAll ds).Form := by
  induction ds generalizing r with
  | nil => exact h
  | cons d ds ih => exact ih (h.hand d)

end
end Sys2Proof.Machine
end

section
/-! SUPPORT. The entries that the part produces have the fields of their class, kind and request; and the shared
operations change the ring by such entries alone. -/

namespace Sys2Proof.Machine

section
variable {s t u : State}

/-! ### Valid drafts -/

/-- No group's list and no captured list has more than 8 members (R13, R75). -/
structure State.ListsBounded (s : State) : Prop where
  groups : ∀ g : Fin 4, (s.groups[g]).length ≤ 8
  captured : ∀ l ∈ s.seq.captured, l.length ≤ 8

theorem State.ScheduleSound.listsBounded (h : s.ScheduleSound) : s.ListsBounded :=
  ⟨fun g => (h.coherent.tables.2 g).1, fun l hl => (h.coherent.captured.2 l hl).2⟩

theorem State.ListsBounded.members_length (h : s.ListsBounded) : s.seq.members.length ≤ 8 := by
  unfold Sequencer.members
  split
  · split
    · simp
    · split
      · cases hl : s.seq.captured with
        | none => simp
        | some l => exact h.captured l hl
      · simp
  · simp

/-- A calibration has no members (R75). -/
theorem Sequencer.members_of_maintenance {q : Sequencer} {m : Merged CalTarget}
    (h : q.current = some (.maintenance m)) : q.members = [] := by
  simp [Sequencer.members, h, Request.channel?, Request.group?]

/-- An entry for the member at position `p` of the current request, of any kind that a channel's entry can have. -/
theorem State.ListsBounded.memberDraft_valid (h : s.ListsBounded) {r : Request} {c : Fin 16} {p : Nat}
    (hcurrent : s.seq.current = some r) (hmember : s.seq.members[p]? = some c) {k : EntryKind}
    (hk : k.ofChannel = true) (now : Word32) :
    Draft.valid { origin := r.origin, target := .channel c, place := r.group?.map fun g => { group := g, position := p }
                  timestamp := now, kind := k } = true := by
  have hlength := h.members_length
  obtain ⟨hp, -⟩ := List.getElem?_eq_some_iff.mp hmember
  have hposition : p ≤ 7 := by omega
  cases r with
  | immediate r =>
    obtain ⟨target, tag⟩ := r
    cases target <;> simp [Draft.valid, Request.origin, Request.group?, hk, hposition]
  | triggered r => simp [Draft.valid, Request.origin, Request.group?, hk, hposition]
  | cadence r => simp [Draft.valid, Request.origin, Request.group?, hk]
  | maintenance m => simp [Sequencer.members_of_maintenance hcurrent] at hmember

/-- The DISABLED entries of the members from position `p` on. -/
theorem State.ListsBounded.skipDrafts_valid (h : s.ListsBounded) {r : Request} {p : Nat} {l rest : List (Fin 16)}
    (hcurrent : s.seq.current = some r) (hlist : s.seq.members.drop p = l ++ rest) :
    ∀ d ∈ s.skipDrafts r p l, d.valid = true := by
  intro d hd
  obtain ⟨k, hk, rfl⟩ := List.mem_mapIdx.mp hd
  refine h.memberDraft_valid hcurrent ?_ rfl _
  rw [← List.getElem?_drop, hlist, List.getElem?_append_left hk, List.getElem?_eq_getElem hk]

/-- The entry of the work in progress; a calibration ends with no reason but STOP and REFERENCE (R82, R84, R85). -/
theorem State.ListsBounded.workDraft_valid (h : s.ListsBounded) {reason : AbortReason}
    (hreason : (reason = .stop ∨ reason = .reference) ∨ s.seq.members ≠ []) :
    ∀ d ∈ s.workDraft reason, d.valid = true := by
  intro d hd
  unfold State.workDraft at hd
  split at hd
  · next m hcurrent =>
    cases hd
    have hreason := hreason.resolve_right (not_not_intro (Sequencer.members_of_maintenance hcurrent))
    simpa [Draft.valid, EntryKind.ofCalibration] using hreason
  · next r _ hcurrent =>
    obtain ⟨c, hmember, rfl⟩ := Option.map_eq_some_iff.mp hd
    exact h.memberDraft_valid hcurrent hmember rfl _
  · cases hd

/-- The entry of an IMMEDIATE request withdrawn. -/
theorem State.withdrawnDraft_valid {reason : AbortReason} {r : ImmRequest} {d : Draft}
    (hd : s.withdrawnDraft reason r = some d) : d.valid = true := by
  unfold State.withdrawnDraft at hd
  split at hd
  · cases hd; rfl
  · obtain ⟨c, -, rfl⟩ := Option.map_eq_some_iff.mp hd
    rfl

/-- The entry of a calibration: its outcome lies in the range of its kind (R97, R98). -/
theorem calDraft_valid (m : Merged CalTarget) (raw : Word16) (k : CalRecord) (now : Word32) :
    (calDraft m (calOutcome m.target.kind raw k) now).valid = true := by
  obtain ⟨⟨kind, gain⟩, count⟩ := m
  cases houtcome : calOutcome kind raw k with
  | none => simp [calDraft, Draft.valid, EntryKind.ofCalibration]
  | some v =>
    suffices hrange : kind.inRange v = true by
      simpa [calDraft, Draft.valid, EntryKind.ofCalibration] using hrange
    cases kind with
    | offset =>
      obtain ⟨⟨hlow, hhigh⟩, hv⟩ := toInt_of_calOutcome_offset houtcome
      exact decide_eq_true (by omega)
    | gain =>
      obtain ⟨-, -, -, -, hrange⟩ := toNat_of_calOutcome_gain houtcome
      exact decide_eq_true hrange

/-! ### Entries produced -/

/-- The ring of `t` is that of `s` after some entries; with the lists of `s` bounded, the entries are valid, and the
lists of `t` are bounded again. -/
def State.Produces (s t : State) : Prop :=
  ∃ ds : List Draft, t.ring = s.ring.handAll ds ∧ (s.ListsBounded → t.ListsBounded ∧ ∀ d ∈ ds, d.valid = true)

/-- A change beside the ring, the groups and the captured list produces no entry. -/
theorem State.produces_none (hring : t.ring = s.ring) (hgroups : t.groups = s.groups)
    (hcaptured : t.seq.captured = s.seq.captured) : s.Produces t :=
  ⟨[], hring, fun h => ⟨⟨hgroups ▸ h.groups, hcaptured ▸ h.captured⟩, by simp⟩⟩

theorem State.Produces.refl (s : State) : s.Produces s := State.produces_none rfl rfl rfl

theorem State.Produces.trans (h : s.Produces t) (k : t.Produces u) : s.Produces u := by
  obtain ⟨ds, hring, hvalid⟩ := h
  obtain ⟨es, kring, kvalid⟩ := k
  refine ⟨ds ++ es, by rw [kring, hring, Ring.handAll_append], fun hbounded => ?_⟩
  obtain ⟨ht, hds⟩ := hvalid hbounded
  obtain ⟨hu, hes⟩ := kvalid ht
  exact ⟨hu, fun d hd => (List.mem_append.mp hd).elim (hds d) (hes d)⟩

/-- Entries produced after a change beside the ring, the groups and the captured list. -/
theorem State.Produces.after (k : t.Produces u) (hring : t.ring = s.ring) (hgroups : t.groups = s.groups)
    (hcaptured : t.seq.captured = s.seq.captured) : s.Produces u :=
  (State.produces_none hring hgroups hcaptured).trans k

/-- Valid entries handed to the ring, with the groups left as they are and the captured list left or given up. -/
theorem State.produces_of_handAll {ds : List Draft} (hring : t.ring = s.ring.handAll ds)
    (hvalid : s.ListsBounded → ∀ d ∈ ds, d.valid = true) (hgroups : t.groups = s.groups)
    (hcaptured : ∀ l ∈ t.seq.captured, l ∈ s.seq.captured) : s.Produces t :=
  ⟨ds, hring, fun h => ⟨⟨hgroups ▸ h.groups, fun l hl => h.captured l (hcaptured l hl)⟩, hvalid h⟩⟩

/-! ### Members, the end of a request, and arbitration -/

theorem State.endRequest_produces (k : Converter) (s : State) : s.Produces (s.endRequest k) := by
  rw [State.endRequest_eq]
  exact State.produces_of_handAll (ds := []) rfl (by simp) rfl (by simp [Sequencer.ended])

/-- The members `l` of the current request, from position `p` on, skipped. -/
theorem State.skipMembers_produces {r : Request} {p : Nat} {l rest : List (Fin 16)} (hcurrent : s.seq.current = some r)
    (hlist : s.seq.members.drop p = l ++ rest) : s.Produces (s.skipMembers r p l) := by
  rw [State.skipMembers_eq]
  exact State.produces_of_handAll rfl (fun h => h.skipDrafts_valid hcurrent hlist) rfl fun _ hl => hl

/-- A grant captures the list of a group. -/
theorem State.grant_produces (slot : Nat) (r : Request) (q : Queues) (s : State) : s.Produces (s.grant slot r q) := by
  refine ⟨[], rfl, fun h => ⟨⟨h.groups, fun l hl => ?_⟩, by simp⟩⟩
  obtain ⟨g, -, rfl⟩ := Option.map_eq_some_iff.mp hl
  exact h.groups g

/-- A turn, or the end of the request where arbitration over no more requests produces valid entries. -/
theorem State.goOn_produces_of_arbitrate {r : Request} (hcurrent : s.seq.current = some r) (p : Nat)
    (harbitrate : ∀ t : State, t.queues.total = s.queues.total → t.Produces t.arbitrate) : s.Produces (s.goOn p) := by
  obtain hoff | ⟨skipped, c, rest, hlist, hskipped, hc⟩ := s.allDisabled_or_firstEnabled (s.seq.members.drop p)
  · rw [State.goOn_ends hcurrent hoff]
    have hskips : s.Produces (s.skipMembers r p (s.seq.members.drop p)) :=
      State.skipMembers_produces hcurrent (List.append_nil _).symm
    refine (hskips.trans (State.endRequest_produces .idle _)).trans (harbitrate _ ?_)
    simp [State.endRequest_eq, State.skipMembers_eq, State.abortEntries]
  · rw [State.goOn_starts hcurrent hlist hskipped hc]
    exact (State.skipMembers_produces hcurrent hlist).trans (State.produces_none rfl rfl rfl)

/-- Arbitration, by the number of requests waiting. -/
theorem State.arbitrate_produces (s : State) : s.Produces s.arbitrate := by
  induction hn : s.queues.total using Nat.strong_induction_on generalizing s with
  | h n ih =>
    cases hfree : s.free with
    | false =>
      rw [State.arbitrate_of_not_free hfree]
      exact .refl s
    | true =>
      cases hsearch : s.search with
      | none =>
        rw [State.arbitrate_of_search_none hsearch]
        exact .refl s
      | some found =>
        obtain ⟨slot, c⟩ := found
        obtain ⟨r, q, htake⟩ := Queues.take_of_waiting (State.waiting_of_search hsearch)
        have hgrant := s.grant_produces slot r q
        cases hr : r.isCalibration with
        | true =>
          cases r with
          | maintenance m =>
            rw [State.arbitrate_calibrates hfree hsearch htake]
            exact hgrant.trans (State.produces_none rfl rfl rfl)
          | immediate _ | triggered _ | cadence _ => cases hr
        | false =>
          rw [State.arbitrate_serves hfree hsearch htake hr]
          refine hgrant.trans (State.goOn_produces_of_arbitrate rfl 0 fun t ht => ih t.queues.total ?_ t rfl)
          rw [ht, ← hn, Queues.total_of_take htake]
          exact Nat.lt_succ_self _

theorem State.goOn_produces (hcurrent : s.seq.current.isSome) (p : Nat) : s.Produces (s.goOn p) := by
  obtain ⟨r, hr⟩ := Option.isSome_iff_exists.mp hcurrent
  exact State.goOn_produces_of_arbitrate hr p fun t _ => t.arbitrate_produces

/-! ### Postings, expiries and triggers -/

theorem State.postImmediate_produces (r : ImmRequest) (s : State) : s.Produces (s.postImmediate r) :=
  (State.arbitrate_produces _).after rfl rfl rfl

theorem State.postTriggered_produces (g : Fin 4) (s : State) : s.Produces (s.postTriggered g) := by
  unfold State.postTriggered
  split_ifs
  · exact State.produces_none rfl rfl rfl
  · exact State.produces_none rfl rfl rfl
  · exact (State.arbitrate_produces _).after rfl rfl rfl

theorem State.postCadence_produces (c : Fin 16) (s : State) : s.Produces (s.postCadence c) := by
  unfold State.postCadence
  split_ifs
  · exact State.produces_none rfl rfl rfl
  · exact State.produces_none rfl rfl rfl
  · exact (State.arbitrate_produces _).after rfl rfl rfl

theorem State.postMaintenance_produces (m : CalTarget) (s : State) : s.Produces (s.postMaintenance m) := by
  unfold State.postMaintenance
  split
  · exact State.produces_none rfl rfl rfl
  · exact (State.arbitrate_produces _).after rfl rfl rfl

theorem State.expire_produces (c : Fin 16) (s : State) : s.Produces (s.expire c) :=
  (State.postCadence_produces c _).after rfl rfl rfl

theorem State.acceptTrigger_produces (i : Fin 2) (s : State) : s.Produces (s.acceptTrigger i) :=
  (State.postTriggered_produces _ _).after rfl rfl rfl

theorem State.takeExpiries_produces (s : State) : s.Produces s.takeExpiries := by
  unfold State.takeExpiries
  refine List.foldlRecOn (motive := s.Produces) channelOrder _ (.refl s) fun t ht c _ => ?_
  split
  · exact ht.trans (t.expire_produces c)
  · exact ht

theorem State.arm_produces (c : Fin 16) (s : State) : s.Produces (s.arm c) := by
  unfold State.arm
  dsimp only
  split
  · exact (State.expire_produces c _).after rfl rfl rfl
  · exact State.produces_none rfl rfl rfl

/-! ### Channel writes -/

/-- The disable stage: the entry of the member in flight, and those of the requests withdrawn (R7, R8, R83). -/
theorem State.disable_produces (i : Fin 16) (s : State) : s.Produces ((s.abortDisabled i).withdrawChannel i) := by
  rw [State.disable_eq]
  refine State.produces_of_handAll rfl (fun h d hd => ?_) rfl fun l hl => ?_
  · obtain hd | hd := List.mem_append.mp hd
    · unfold State.cutDrafts at hd
      split at hd
      · next hflying =>
        obtain ⟨r, hr, rfl⟩ := List.mem_map.mp hd
        simp only [State.flying, Bool.and_eq_true, decide_eq_true_eq] at hflying
        exact h.memberDraft_valid (Option.mem_toList.mp hr) hflying.2 rfl _
      · cases hd
    · obtain ⟨r, -, rfl⟩ := List.mem_map.mp hd
      rfl
  · dsimp only at hl
    unfold Sequencer.cut at hl
    split_ifs at hl
    · cases hl
    · exact hl
    · exact hl

theorem State.recadence_produces (i : Fin 16) (old : ChannelRecord) (s : State) : s.Produces (s.recadence i old) := by
  rw [State.recadence_eq]
  split_ifs
  · exact .refl s
  · exact s.arm_produces i
  · exact State.produces_none rfl rfl rfl
  · exact .refl s
  · exact .refl s

theorem State.evaluate_produces (c : Fin 16) (s : State) : s.Produces (s.evaluate c) := by
  rw [State.evaluate_eq]
  exact State.produces_none rfl rfl rfl

theorem State.storeChannel_produces (i : Fin 16) (new : ChannelRecord) (s : State) :
    s.Produces (s.storeChannel i new) := by
  unfold State.storeChannel
  dsimp only
  refine State.Produces.trans (State.Produces.trans ?_ (State.recadence_produces i _ _)) (State.evaluate_produces i _)
  split
  · exact (State.disable_produces i _).after rfl rfl rfl
  · exact State.produces_none rfl rfl rfl

/-! ### Events -/

/-- A sample of the member in flight, and the turn after it (R78). -/
theorem State.completeMember_produces {r : Request} {c : Fin 16} {m : MemberSnapshot} (raw : Word16)
    (hcurrent : s.seq.current = some r) (hmember : s.seq.members[s.seq.position]? = some c) :
    s.Produces (s.completeMember raw r c m) := by
  have hsampled : s.Produces (s.sampled raw r c m) :=
    State.produces_of_handAll (ds := [s.completionDraft raw r c m]) rfl
      (fun h d hd => by
        rw [List.mem_singleton.mp hd]
        exact h.memberDraft_valid hcurrent hmember rfl _) rfl fun _ hl => hl
  rw [State.completeMember_eq]
  exact hsampled.trans (State.goOn_produces (by simp [State.sampled, hcurrent]) _)

theorem State.completeCalibration_produces {m : Merged CalTarget} (raw : Word16)
    (hcurrent : s.seq.current = some (.maintenance m)) : s.Produces (s.completeCalibration raw m) := by
  rw [State.completeCalibration_eq hcurrent rfl]
  refine State.Produces.trans ?_ (State.arbitrate_produces _)
  refine State.produces_of_handAll (ds := [_]) rfl (fun _ d hd => ?_) rfl (by simp [Sequencer.ended])
  rw [List.mem_singleton.mp hd]
  exact calDraft_valid m raw _ _

theorem State.endRecovery_produces (s : State) : s.Produces s.endRecovery := by
  unfold State.endRecovery
  split_ifs with _ hcurrent
  · exact State.produces_none rfl rfl rfl
  · exact State.goOn_produces hcurrent _
  · exact (State.arbitrate_produces _).after rfl rfl rfl

/-- An onset: the entry of the work that it ends (R85). -/
theorem State.haltForReference_produces (s : State) : s.Produces s.haltForReference := by
  rw [State.haltForReference_eq]
  refine State.produces_of_handAll rfl (fun h d hd => ?_) rfl fun l hl => ?_
  · unfold State.onsetDrafts at hd
    split at hd
    · exact h.workDraft_valid (.inl (.inr rfl)) d (Option.mem_toList.mp hd)
    · cases hd
  · dsimp only at hl
    split_ifs at hl
    · cases hl
    · exact hl
    · cases hl
    · exact hl

theorem State.requestRefFaultClear_produces (s : State) : s.Produces s.requestRefFaultClear := by
  unfold State.requestRefFaultClear
  dsimp only
  split_ifs
  · exact .refl s
  · exact (State.arbitrate_produces _).after rfl rfl rfl
  · exact State.produces_none rfl rfl rfl

theorem State.clearFlagsHigh_produces (v : Byte) (s : State) : s.Produces (s.clearFlagsHigh v) := by
  unfold State.clearFlagsHigh
  dsimp only
  split
  · exact (State.requestRefFaultClear_produces _).after rfl rfl rfl
  · exact State.produces_none rfl rfl rfl

theorem State.tick_produces (s : State) : s.Produces s.tick := by
  have hexpiries := s.takeExpiries_produces
  unfold State.tick
  generalize s.takeExpiries = t at hexpiries
  exact hexpiries.trans (State.produces_none rfl rfl rfl)

theorem State.changeLevel_produces (i : Fin 2) (level : Bool) (s : State) : s.Produces (s.changeLevel i level) := by
  unfold State.changeLevel
  dsimp only
  split_ifs
  · exact State.produces_none rfl rfl rfl
  · exact (State.acceptTrigger_produces i _).after rfl rfl rfl
  · exact State.produces_none rfl rfl rfl

end
end Sys2Proof.Machine
end

section
/-! SUPPORT. The ring along the rows: each hands over valid entries, removes entries, or leaves them; and the statements
that the ring's form and the entries' fields are kept. -/

namespace Sys2Proof.Machine

section
variable {s t : State}

/-! ### What a row does to the ring -/

/-- From `s` to `t` the ring keeps its form, and, from a sound schedule, its entries stay valid. -/
structure State.KeepsRing (s t : State) : Prop where
  form : s.ring.Form → t.ring.Form
  entries : s.ScheduleSound → s.EntriesValid → t.EntriesValid

theorem State.keepsRing_of_ring_eq (h : t.ring = s.ring) : s.KeepsRing t :=
  ⟨fun hform => h ▸ hform, fun _ hvalid e he => hvalid e (h ▸ he)⟩

/-- Entries handed to the ring, valid under a sound schedule. -/
theorem State.keepsRing_of_handAll {ds : List Draft} (hring : t.ring = s.ring.handAll ds)
    (hds : s.ScheduleSound → ∀ d ∈ ds, d.valid = true) : s.KeepsRing t := by
  refine ⟨fun hform => hring ▸ hform.handAll ds, fun hsound hvalid e he => ?_⟩
  rw [hring] at he
  exact (Ring.mem_handAll he).elim (hvalid e) (hds hsound e.draft)

theorem State.Produces.keepsRing (h : s.Produces t) : s.KeepsRing t := by
  obtain ⟨ds, hring, hvalid⟩ := h
  exact State.keepsRing_of_handAll hring fun hsound => (hvalid hsound.listsBounded).2

/-- Entries removed from the head, whatever becomes of the counts and the policy. -/
theorem State.keepsRing_of_drop (n : Nat) (hentries : t.ring.entries = s.ring.entries.drop n)
    (hnext : t.ring.nextSeq = s.ring.nextSeq) (hwatermark : t.ring.watermark = s.ring.watermark) : s.KeepsRing t := by
  refine ⟨fun hform => ?_, fun _ hvalid e he => hvalid e (List.mem_of_mem_drop (hentries ▸ he))⟩
  have hdrop := hform.drop n
  unfold Ring.Form at hdrop ⊢
  simp only [hentries, hnext, hwatermark]
  exact hdrop

/-- The ring of a reset. -/
theorem State.keepsRing_of_reset (h : t.ring = .reset) : s.KeepsRing t := by
  refine ⟨fun _ => ?_, fun _ _ e he => ?_⟩
  · rw [h]
    exact ⟨Nat.zero_le _, le_rfl, by decide, by simp [Ring.reset], fun k hk => absurd hk (Nat.not_lt_zero k)⟩
  · rw [h] at he
    exact absurd he List.not_mem_nil

/-! ### Run control -/

theorem State.armAll_produces (s : State) : s.Produces s.armAll := by
  unfold State.armAll
  exact State.produces_none rfl rfl rfl

theorem State.startCommand_produces (s : State) : s.Produces s.startCommand.state := by
  unfold State.startCommand
  split
  · rw [State.accept_state]
    have harmed : s.Produces ({ s with scheduler := .running } : State).armAll :=
      (State.armAll_produces _).after rfl rfl rfl
    exact (harmed.trans (State.takeExpiries_produces _)).trans (State.arbitrate_produces _)
  · exact .refl s

theorem State.pauseCommand_ring (s : State) : s.pauseCommand.state.ring = s.ring := by
  unfold State.pauseCommand
  split
  · split <;> rfl
  all_goals rfl

theorem State.resumeCommand_produces (s : State) : s.Produces s.resumeCommand.state := by
  unfold State.resumeCommand
  split
  case h_2 => exact (State.arbitrate_produces _).after rfl rfl rfl
  all_goals exact State.produces_none rfl rfl rfl

/-- STOP hands over the entry of the work in progress and those of the requests withdrawn (R143). -/
theorem State.stopCommand_keepsRing (s : State) : s.KeepsRing s.stopCommand.state := by
  cases haccepts : s.scheduler.accepts with
  | false =>
    have hrefused : s.stopCommand = s.refuse .badState := by simp [State.stopCommand, haccepts]
    exact State.keepsRing_of_ring_eq (by rw [hrefused, State.refuse_state])
  | true =>
    rw [State.stopCommand_eq haccepts]
    refine State.keepsRing_of_handAll rfl fun hsound d hd => ?_
    obtain hd | hd := List.mem_append.mp hd
    · unfold State.stopDrafts at hd
      split at hd
      · exact hsound.listsBounded.workDraft_valid (.inl (.inl rfl)) d (Option.mem_toList.mp hd)
      · cases hd
    · obtain ⟨r, -, hr⟩ := List.mem_filterMap.mp hd
      exact State.withdrawnDraft_valid hr

/-- ABORT_CURRENT hands over the entry of a member in flight; it ends no calibration (R82). -/
theorem State.abortCommand_keepsRing (s : State) : s.KeepsRing s.abortCommand.state := by
  by_cases hflight : s.seq.converter = .settling ∨ s.seq.converter = .converting
  · rw [State.abortCommand_inFlight hflight, State.abortEntries_endRequest]
    refine State.keepsRing_of_handAll rfl fun hsound d hd => ?_
    obtain ⟨-, hmember, -⟩ := hsound.coherent.sound
    have hmembers : s.seq.members ≠ [] := List.ne_nil_of_length_pos (Nat.zero_lt_of_lt (hmember hflight).1)
    exact hsound.listsBounded.workDraft_valid (.inr hmembers) d (Option.mem_toList.mp hd)
  · refine State.keepsRing_of_ring_eq ?_
    unfold State.abortCommand
    split
    case h_1 hk | h_2 hk => exact absurd (by simp [hk]) hflight
    all_goals rfl

/-! ### Commands that post, and table writes -/

theorem State.postCommand_produces (s : State) : s.Produces s.postCommand.state := by
  unfold State.postCommand
  split
  · exact .refl s
  · split
    · exact .refl s
    · dsimp only
      split_ifs
      case neg => exact State.postImmediate_produces _ s
      all_goals exact .refl s

theorem State.softTriggerCommand_produces (s : State) : s.Produces s.softTriggerCommand.state := by
  unfold State.softTriggerCommand
  split
  · exact .refl s
  · split
    · exact .refl s
    · split_ifs
      case neg => exact State.acceptTrigger_produces _ s
      all_goals exact .refl s

theorem State.calibrateCommand_produces (s : State) : s.Produces s.calibrateCommand.state := by
  unfold State.calibrateCommand
  split_ifs
  case neg =>
    exact List.foldlRecOn (motive := s.Produces) _ _ (.refl s) fun t ht m _ => ht.trans (t.postMaintenance_produces m)
  all_goals exact .refl s

/-- Only a channel write reaches the ring. -/
theorem State.writeTableCommand_keepsRing (s : State) : s.KeepsRing s.writeTableCommand.state := by
  unfold State.writeTableCommand
  split
  · unfold State.writeChannel
    split
    · exact State.keepsRing_of_ring_eq rfl
    · exact (State.storeChannel_produces _ _ s).keepsRing
  · refine State.keepsRing_of_ring_eq ?_
    unfold State.writeGroup
    split
    · rfl
    · split_ifs <;> rfl
  · refine State.keepsRing_of_ring_eq ?_
    unfold State.writeTrigger
    split
    · rfl
    · split_ifs <;> rfl
  · refine State.keepsRing_of_ring_eq ?_
    unfold State.writePhase
    split <;> rfl
  all_goals exact State.keepsRing_of_ring_eq rfl

/-! ### The ring commands -/

theorem State.releaseCommand_keepsRing (s : State) : s.KeepsRing s.releaseCommand.state := by
  unfold State.releaseCommand
  split
  · exact State.keepsRing_of_ring_eq rfl
  · dsimp only
    split_ifs
    · exact State.keepsRing_of_drop _ rfl rfl rfl
    · exact State.keepsRing_of_ring_eq rfl
    · exact State.keepsRing_of_ring_eq rfl

theorem State.clearCommand_keepsRing (s : State) : s.KeepsRing s.clearCommand.state :=
  State.keepsRing_of_drop s.ring.entries.length List.drop_length.symm rfl rfl

/-- A watermark that is stored lies from 1 to 64 (R122). -/
theorem State.configCommand_keepsRing (s : State) : s.KeepsRing s.configCommand.state := by
  unfold State.configCommand
  dsimp only
  split
  · exact State.keepsRing_of_ring_eq rfl
  · split_ifs with hrange
    · exact State.keepsRing_of_ring_eq rfl
    · refine ⟨fun ⟨hlength, _, _, hloss, hseq⟩ => ?_, fun _ hvalid => hvalid⟩
      obtain ⟨hlow, hhigh⟩ := not_or.mp hrange
      exact ⟨hlength, Nat.one_le_iff_ne_zero.mpr hlow, Nat.le_of_not_lt hhigh, hloss, hseq⟩

/-! ### Commands and registers that leave the ring alone -/

theorem State.readTableCommand_ring (s : State) : s.readTableCommand.state.ring = s.ring := by
  unfold State.readTableCommand
  split
  · rfl
  · rw [State.accept_state]

theorem State.swapCommand_ring (s : State) : s.swapCommand.state.ring = s.ring := by
  unfold State.swapCommand
  split_ifs <;> rfl

theorem State.setReferenceCommand_ring (s : State) : s.setReferenceCommand.state.ring = s.ring := by
  unfold State.setReferenceCommand
  simp only [State.putReference_eq]
  split
  · rfl
  · split_ifs <;> rfl

theorem State.setTickCommand_ring (s : State) : s.setTickCommand.state.ring = s.ring := by
  unfold State.setTickCommand
  split_ifs <;> rfl

theorem State.requestDeviationClear_produces (k : Nat) (v : Byte) (s : State) :
    s.Produces (s.requestDeviationClear k v) := by
  unfold State.requestDeviationClear
  exact State.produces_none rfl rfl rfl

theorem State.storeByte_ring (a v : Byte) (s : State) : (s.storeByte a v).ring = s.ring := by
  unfold State.storeByte
  dsimp only
  split_ifs <;> rfl

theorem State.csnFalls_ring (sclkHigh : Bool) (s : State) : (s.csnFalls sclkHigh).ring = s.ring := by
  unfold State.csnFalls
  split <;> rfl

theorem State.leaveStarting_ring (s : State) : s.leaveStarting.ring = s.ring := by
  rw [State.leaveStarting_eq]

/-! ### Every row -/

/-- The row of a command, by what the command does to the ring. -/
theorem State.commandRow_keepsRing (s : State) (b : Bool) (code : Byte) {f : State → Answer}
    (hf : ∀ t : State, t.KeepsRing (f t).state) : Leaves s.KeepsRing (s.occur b (s.takeCommand code f)) := by
  refine leaves_occur (State.keepsRing_of_ring_eq rfl) fun _ => ?_
  by_cases hs : s.scheduler = .starting
  · rw [State.takeCommand_starting _ _ _ hs]
    exact State.keepsRing_of_ring_eq rfl
  · rw [State.takeCommand_eq _ _ _ hs, Answer.leave_eq]
    obtain ⟨hform, hentries⟩ := hf s.advance
    exact ⟨hform, hentries⟩

/-- A register byte, by what it does to the ring. -/
theorem State.takeRegister_keepsRing (s : State) {f : State → State} (hf : ∀ t : State, t.Produces (f t)) :
    s.KeepsRing (s.takeRegister f) := by
  rw [State.takeRegister_eq]
  split
  · exact State.keepsRing_of_ring_eq rfl
  · have hadvance : s.Produces s.advance := State.produces_none rfl rfl rfl
    exact (hadvance.trans (hf s.advance)).keepsRing

theorem Sequencer.inFlight_eq_some {q : Sequencer} {r : Request} {c : Fin 16} {m : MemberSnapshot}
    (h : q.inFlight = some (r, c, m)) : q.current = some r ∧ q.members[q.position]? = some c := by
  unfold Sequencer.inFlight at h
  split at h
  · next hcurrent hmember _ =>
    cases h
    exact ⟨hcurrent, hmember⟩
  · cases h

/-- Each of the 46 rows keeps the ring's form and its entries valid. -/
theorem exec_keepsRing (i : Instr) (s : State) : Leaves s.KeepsRing (exec i s) := by
  have hsame : s.KeepsRing s := State.keepsRing_of_ring_eq rfl
  cases i with
  | start => exact s.commandRow_keepsRing _ _ fun t => t.startCommand_produces.keepsRing
  | pause => exact s.commandRow_keepsRing _ _ fun t => State.keepsRing_of_ring_eq t.pauseCommand_ring
  | resume => exact s.commandRow_keepsRing _ _ fun t => t.resumeCommand_produces.keepsRing
  | stop => exact s.commandRow_keepsRing _ _ State.stopCommand_keepsRing
  | abortCurrent => exact s.commandRow_keepsRing _ _ State.abortCommand_keepsRing
  | post => exact s.commandRow_keepsRing _ _ fun t => t.postCommand_produces.keepsRing
  | softTrigger => exact s.commandRow_keepsRing _ _ fun t => t.softTriggerCommand_produces.keepsRing
  | calibrate => exact s.commandRow_keepsRing _ _ fun t => t.calibrateCommand_produces.keepsRing
  | tableRead => exact s.commandRow_keepsRing _ _ fun t => State.keepsRing_of_ring_eq t.readTableCommand_ring
  | tableWrite => exact s.commandRow_keepsRing _ _ State.writeTableCommand_keepsRing
  | swapBanks => exact s.commandRow_keepsRing _ _ fun t => State.keepsRing_of_ring_eq t.swapCommand_ring
  | ringRelease => exact s.commandRow_keepsRing _ _ State.releaseCommand_keepsRing
  | ringClear => exact s.commandRow_keepsRing _ _ State.clearCommand_keepsRing
  | ringConfig => exact s.commandRow_keepsRing _ _ State.configCommand_keepsRing
  | setReference => exact s.commandRow_keepsRing _ _ fun t => State.keepsRing_of_ring_eq t.setReferenceCommand_ring
  | setTick => exact s.commandRow_keepsRing _ _ fun t => State.keepsRing_of_ring_eq t.setTickCommand_ring
  | unknownCommandCode code => exact s.commandRow_keepsRing _ _ fun _ => State.keepsRing_of_ring_eq rfl
  | deviceReset =>
    refine leaves_occur hsame fun _ => ?_
    unfold State.resetCommand
    split
    · next hs =>
      rw [State.takeCommand_starting _ _ _ hs]
      exact State.keepsRing_of_ring_eq rfl
    · exact State.keepsRing_of_reset rfl
  | rstnLow | por => exact leaves_next (State.keepsRing_of_reset rfl)
  | clearLatchedFlag value =>
    exact leaves_either hsame (s.takeRegister_keepsRing fun _ => State.produces_none rfl rfl rfl)
      (s.takeRegister_keepsRing fun t => t.clearFlagsHigh_produces value)
  | refFaultClear value =>
    exact leaves_occur hsame fun _ => s.takeRegister_keepsRing fun t => t.clearFlagsHigh_produces value
  | alertEnableWrite value =>
    exact leaves_either hsame (s.takeRegister_keepsRing fun _ => State.produces_none rfl rfl rfl)
      (s.takeRegister_keepsRing fun _ => State.produces_none rfl rfl rfl)
  | alertMasterWrite value =>
    exact leaves_occur hsame fun _ => s.takeRegister_keepsRing fun _ => State.produces_none rfl rfl rfl
  | deviationSetClearRequest value =>
    exact leaves_either hsame (s.takeRegister_keepsRing fun t => t.requestDeviationClear_produces 0 value)
      (s.takeRegister_keepsRing fun t => t.requestDeviationClear_produces 1 value)
  | registerWrite value =>
    refine leaves_occur hsame fun _ => State.keepsRing_of_ring_eq ?_
    rw [State.takeRegister_eq]
    split
    · rfl
    · exact State.storeByte_ring _ value _
  | acknowledgingRead partialBits =>
    refine leaves_occur hsame fun _ => State.keepsRing_of_ring_eq ?_
    obtain ⟨v, hv⟩ := s.acknowledge_frame
    rw [hv]
    rfl
  | referenceRecovery => exact leaves_next (State.keepsRing_of_ring_eq rfl)
  | readSnapshot | rstnRise | supplyEstablished | holdoffEnd | endOfSettling | headerByte | writeAddressByte
    | readDataByte | csnRise => exact leaves_occur hsame fun _ => State.keepsRing_of_ring_eq rfl
  | endOfStarting => exact leaves_occur hsame fun _ => State.keepsRing_of_ring_eq s.leaveStarting_ring
  | tick => exact leaves_occur hsame fun _ => s.tick_produces.keepsRing
  | cadenceExpiry channel => exact leaves_occur hsame fun _ => (s.expire_produces channel).keepsRing
  | triggerEdge input level => exact leaves_occur hsame fun _ => (s.changeLevel_produces input level).keepsRing
  | referenceOnset =>
    rw [exec_referenceOnset]
    refine leaves_next ?_
    split
    · exact State.keepsRing_of_ring_eq rfl
    · refine (State.Produces.trans ?_ (State.haltForReference_produces _)).keepsRing
      exact State.produces_none rfl rfl rfl
  | conversionCompletion raw =>
    simp only [exec, execConversionCompletion]
    split
    · next r c m hflight =>
      obtain ⟨hcurrent, hmember⟩ := Sequencer.inFlight_eq_some hflight
      exact leaves_occur hsame fun _ => (State.completeMember_produces raw hcurrent hmember).keepsRing
    · exact leaves_next hsame
  | calibrationCompletion raw =>
    simp only [exec, execCalibrationCompletion]
    split
    · next hcurrent => exact leaves_occur hsame fun _ => (State.completeCalibration_produces raw hcurrent).keepsRing
    · exact leaves_next hsame
  | endOfRecovery => exact leaves_occur hsame fun _ => s.endRecovery_produces.keepsRing
  | csnFall sclkHigh => exact leaves_occur hsame fun _ => State.keepsRing_of_ring_eq (s.csnFalls_ring sclkHigh)

end

/-- Settles O55: every row keeps the form, and it does not speak of the rows to come. -/
theorem ringFormIsKept : Obligations.RingFormIsKept :=
  fun _ _ hs h => step_keeps (P := fun s => s.ring.Form) (fun _ _ ht => ht)
    (fun i s hform t ht => (exec_keepsRing i s t ht).form hform) hs h

/-- Settles O60: with the schedule, which every row keeps sound, every row keeps the entries valid. -/
theorem entriesStayValid : Obligations.EntriesStayValid := by
  intro s t hsound hvalid h
  have hkept : t.ScheduleSound ∧ t.EntriesValid :=
    step_keeps (P := fun s => s.ScheduleSound ∧ s.EntriesValid) (fun _ _ hs => hs)
      (fun i s ⟨hsound, hvalid⟩ t ht =>
        ⟨exec_keeps_scheduleSound i s hsound t ht, (exec_keepsRing i s t ht).entries hsound hvalid⟩)
      ⟨hsound, hvalid⟩ h
  exact hkept.2

end Sys2Proof.Machine
end

section
/-! SUPPORT. The statements on the ring commands, and on an entry handed to the ring. -/

namespace Sys2Proof.Machine

section
variable {s : State}

/-! ### Commands in STARTING -/

/-- A command's byte in STARTING is answered NOT_READY. -/
theorem State.occur_starting (h : s.inWrite 0x14) (hstarting : s.scheduler = .starting) (code : Byte)
    (f : State → Answer) :
    s.occur (s.writingAt 0x14) (s.takeCommand code f) = .next (s.answered code .notReady .none) := by
  rw [(State.writingAt_iff _ _).mpr h, State.occur_true, State.takeCommand_starting _ _ _ hstarting]

/-! ### RING_RELEASE -/

/-- The modular distance of a sequence number, given by its bytes, from another (R117). -/
theorem word16_sub_toNat (lo hi : Byte) (n : Word16) :
    (word16 lo hi - n).toNat = (lo.toNat + 256 * hi.toNat + 65536 - n.toNat) % 65536 := by
  have hword : (word16 lo hi).toNat = lo.toNat + 256 * hi.toNat := by
    rw [word16, BitVec.toNat_append, ← Nat.shiftLeft_add_eq_or_of_lt lo.isLt, Nat.shiftLeft_eq]
    omega
  have hn := n.isLt
  rw [BitVec.toNat_sub, hword]
  congr 1
  omega

/-- RING_RELEASE on a ring with a head, by the distance of the argument from the head's number. -/
theorem State.releaseCommand_eq {n d : Nat} (hsome : 0 < s.ring.entries.length) (hn : s.ring.entries.length = n)
    (hd : (word16 s.command.args[0] s.command.args[1] - s.ring.entries[0].seq).toNat = d) :
    s.releaseCommand =
      if d < n then
        ({ s with ring := { s.ring with entries := s.ring.entries.drop (d + 1) } } : State).accept
      else if d < 32768 then s.refuse .badArg
      else s.refuse .stale := by
  subst hn hd
  unfold State.releaseCommand
  split
  · next hempty => simp [hempty] at hsome
  · next head rest hentries => simp only [hentries, List.getElem_cons_zero]

/-- Settles O27: EMPTY without a head, and by the distance from the head's number with one. -/
theorem releaseRemovesThroughTheNamedEntry : Obligations.ReleaseRemovesThroughTheNamedEntry := by
  unfold Obligations.ReleaseRemovesThroughTheNamedEntry
  intro s hs n
  constructor
  · intro hempty
    refine State.occur_refused hs ?_
    simp only [State.releaseCommand, State.advance_ring, hempty]
  · intro hsome d
    have hexec : exec .ringRelease s = .next (s.advance.releaseCommand.leave 0x30) :=
      State.occur_takeCommand hs 0x30 State.releaseCommand
    rw [hexec, State.releaseCommand_eq (s := s.advance) (n := n) (d := d) hsome rfl (word16_sub_toNat _ _ _)]
    split_ifs
    · rw [State.accept_leave, State.answered_ok]
      rfl
    · rw [State.refuse_leave]
    · rw [State.refuse_leave]

/-! ### RING_CLEAR -/

/-- RING_CLEAR out of STARTING. -/
theorem exec_ringClear (hs : s.takesByteAt 0x14) :
    exec .ringClear s = .next { s.answered 0x31 .ok .none with
      ring := { s.ring with entries := [], lossCount := 0, pendingLoss := 0 } } := by
  have hexec : exec .ringClear s = .next (s.advance.clearCommand.leave 0x31) :=
    State.occur_takeCommand hs 0x31 State.clearCommand
  rw [hexec, State.clearCommand, State.accept_leave, State.answered_ok]
  rfl

/-- Settles O28: the clear by its row, before an entry and after one. -/
theorem clearEmptiesTheRing : Obligations.ClearEmptiesTheRing := by
  unfold Obligations.ClearEmptiesTheRing
  intro d s hs
  refine ⟨fun hstarting => State.occur_starting hs hstarting 0x31 State.clearCommand,
    fun hscheduler => exec_ringClear ⟨hs, hscheduler⟩, fun hscheduler hwatermark => ?_⟩
  have hproduced : (s.produce d).takesByteAt 0x14 := by
    simpa [State.produce_eq] using ⟨hs, hscheduler⟩
  refine ⟨_, exec_ringClear ⟨hs, hscheduler⟩, ?_, ?_, _, exec_ringClear hproduced, rfl, rfl, rfl⟩
  · exact decide_eq_false (Nat.not_le.mpr hwatermark)
  · rfl

/-! ### RING_CONFIG -/

theorem policyOf_eq_none_iff (b : Byte) : policyOf b = none ↔ b ≠ 0x00 ∧ b ≠ 0x01 := by
  unfold policyOf
  split_ifs <;> simp_all

theorem policyOf_eq_some {b : Byte} (h : b = 0x00 ∨ b = 0x01) :
    policyOf b = some (if b = 0x00 then .hold else .overwrite) := by
  obtain rfl | rfl := h <;> rfl

/-- RING_CONFIG with a code that is no policy's, or a watermark out of range. -/
theorem State.configCommand_refuses (h : (s.command.args[0] ≠ 0x00 ∧ s.command.args[0] ≠ 0x01)
    ∨ (s.command.args[1]).toNat = 0 ∨ 64 < (s.command.args[1]).toNat) : s.configCommand = s.refuse .badArg := by
  unfold State.configCommand
  split
  · rfl
  · next policy hpolicy =>
    refine if_pos (h.resolve_left fun hno => ?_)
    simp [(policyOf_eq_none_iff _).mpr hno] at hpolicy

/-- RING_CONFIG with a policy and a watermark in range. -/
theorem State.configCommand_accepts {policy : Policy} (hpolicy : policyOf s.command.args[0] = some policy)
    (hlow : 1 ≤ (s.command.args[1]).toNat) (hhigh : (s.command.args[1]).toNat ≤ 64) :
    s.configCommand =
      ({ s with ring := { s.ring with policy := policy, watermark := (s.command.args[1]).toNat } } : State).accept := by
  unfold State.configCommand
  simp only [hpolicy]
  exact if_neg (by simp only [Config.ringCapacity]; omega)

/-- What a full ring does with an entry, by its policy (R112). -/
theorem Ring.hand_of_full {r : Ring} (h : r.full = true) (d : Draft) :
    r.hand d = if r.policy = .hold then r.discard else r.dropHead.place d := by
  cases hpolicy : r.policy <;> simp [Ring.hand, h, hpolicy]

/-- Settles O29: the refusals, and both values stored; the policy stored decides for a full ring. -/
theorem configStoresPolicyAndWatermark : Obligations.ConfigStoresPolicyAndWatermark := by
  unfold Obligations.ConfigStoresPolicyAndWatermark
  intro d s hs w a
  refine ⟨fun hstarting => State.occur_starting hs hstarting 0x32 State.configCommand,
    fun hscheduler hrefused =>
      State.occur_refused ⟨hs, hscheduler⟩ (State.configCommand_refuses (s := s.advance) hrefused),
    fun hscheduler hpolicy hlow hhigh => ?_⟩
  intro t
  have hexec : exec .ringConfig s = .next (s.advance.configCommand.leave 0x32) :=
    State.occur_takeCommand ⟨hs, hscheduler⟩ 0x32 State.configCommand
  refine ⟨?_, rfl, fun hfull => ?_⟩
  · rw [hexec, State.configCommand_accepts (s := s.advance) (policyOf_eq_some hpolicy) hlow hhigh, State.accept_leave]
    simp only [t, State.answered_ok]
    rfl
  · have htfull : t.ring.full = true := hfull
    rw [Ring.hand_of_full htfull]
    refine if_congr ?_ rfl rfl
    simp [t]

/-! ### An entry handed to the ring -/

/-- The loss count after a loss (R112). -/
theorem Ring.countLoss_eq (r : Ring) :
    r.countLoss = { r with lossCount := if r.lossCount.toNat = 65535 then r.lossCount else r.lossCount + 1 } := by
  have hend : r.lossCount = 0xFFFF ↔ r.lossCount.toNat = 65535 := BitVec.toNat_inj.symm
  simp only [Ring.countLoss, hend]

/-- The counts after an entry is discarded (R113). -/
theorem Ring.discard_eq (r : Ring) :
    r.discard = { r with
      lossCount := if r.lossCount.toNat = 65535 then r.lossCount else r.lossCount + 1
      pendingLoss := if r.pendingLoss.toNat = 255 then r.pendingLoss else r.pendingLoss + 1 } := by
  have hend : r.pendingLoss = 0xFF ↔ r.pendingLoss.toNat = 255 := BitVec.toNat_inj.symm
  simp only [Ring.discard, Ring.countLoss_eq, hend]

/-- An entry produced for a ring with room. -/
theorem State.produce_of_room (d : Draft) (h : s.ring.entries.length < 64) :
    s.produce d = { s with ring := s.ring.place d } := by
  have hroom : s.ring.full = false := Bool.eq_false_iff.mpr fun hfull => by
    rw [Ring.full_iff] at hfull
    omega
  simp only [State.produce, Ring.hand, hroom, Bool.false_eq_true, if_false]

/-- An entry produced for a full ring: one is lost, by the policy, and RING_LOSS is set. -/
theorem State.produce_of_full (d : Draft) (h : 64 ≤ s.ring.entries.length) :
    s.produce d = { s with
      ring := if s.ring.policy = .hold then s.ring.discard else s.ring.dropHead.place d
      alerts := s.alerts.also fun
        | .ringLoss => true
        | _ => false } := by
  have hfull : s.ring.full = true := s.ring.full_iff.mpr h
  rw [State.produce_eq, Ring.hand_of_full hfull, Alerts.also_congr]
  intro f
  cases f <;> simp [hfull]

/-- Settles O52: a ring with room, and a full one under either policy. -/
theorem entriesArePlacedDiscardedOrReplace : Obligations.EntriesArePlacedDiscardedOrReplace := by
  unfold Obligations.EntriesArePlacedDiscardedOrReplace
  intro d s r entry lost
  refine ⟨fun hroom => State.produce_of_room d hroom, fun hfull hpolicy => ?_, fun hfull hpolicy => ?_⟩
  · have hproduce := State.produce_of_full d hfull
    rw [if_pos hpolicy, Ring.discard_eq] at hproduce
    exact hproduce
  · have hproduce := State.produce_of_full d hfull
    have hoverwrite : s.ring.policy ≠ .hold := by rw [show s.ring.policy = .overwrite from hpolicy]; decide
    rw [if_neg hoverwrite, Ring.dropHead, Ring.countLoss_eq, List.drop_one] at hproduce
    exact hproduce

end
end Sys2Proof.Machine
end

section
/-! SUPPORT. The Monitor, record by record: the deviation condition, an evaluation and a reference put, as functions of one
channel's records; and the statements on SET_REFERENCE, on DEVIATION_SET and on the acknowledging read. -/

namespace Sys2Proof.Machine

section
variable {s : State}

/-! ### One monitor record -/

/-- The deviation condition of a monitor record whose channel has this band (R126). -/
def MonitorRecord.deviates (band : Word16) (r : MonitorRecord) : Bool :=
  match r.latest, r.reference with
  | some l, some f => decide (band ≠ 0 ∧ band.toNat < codeDistance l.value f)
  | _, _ => false

/-- The record after an evaluation (R127). -/
def MonitorRecord.reported (band : Word16) (r : MonitorRecord) : MonitorRecord :=
  if r.deviates band then { r with inSet := true } else r

/-- The record after its reference is set or made absent, and evaluated (R131, R133). -/
def MonitorRecord.referred (band : Word16) (f : Option Word16) (r : MonitorRecord) : MonitorRecord :=
  { r with reference := f }.reported band

/-- The record after the acknowledgement of a snapshot in which its latest value was `seen` (R131). -/
def MonitorRecord.acknowledged (band : Word16) (seen : Option Word16) (r : MonitorRecord) : MonitorRecord :=
  if seen.isSome then r.referred band seen else r

theorem State.deviates_eq (c : Fin 16) (s : State) : s.deviates c = (s.monitors[c]).deviates (s.channels[c]).band := rfl

/-- Being in the deviation set is not part of the condition. -/
theorem MonitorRecord.deviates_reported (band : Word16) (r : MonitorRecord) :
    (r.reported band).deviates band = r.deviates band := by
  unfold MonitorRecord.reported
  split <;> rfl

/-- An evaluation reports the condition. -/
theorem MonitorRecord.inSet_reported {band : Word16} {r : MonitorRecord} (h : r.deviates band = true) :
    (r.reported band).inSet = true := by
  rw [MonitorRecord.reported, if_pos h]

/-! ### One channel of the state -/

/-- An evaluation reaches one record. -/
theorem State.evaluated_eq (c : Fin 16) (s : State) :
    s.evaluated c = s.monitors.set c ((s.monitors[c]).reported (s.channels[c]).band) := by
  rw [State.evaluated, MonitorRecord.reported, State.deviates_eq]
  split
  · rfl
  · exact (Vector.set_getElem_self c.isLt).symm

/-- A reference put reaches one record. -/
theorem State.putReference_eq_set (c : Fin 16) (f : Option Word16) (s : State) :
    s.putReference c f =
      { s with monitors := s.monitors.set c ((s.monitors[c]).referred (s.channels[c]).band f) } := by
  rw [State.putReference_eq, State.evaluated_eq]
  simp [MonitorRecord.referred]

/-! ### SET_REFERENCE -/

theorem State.setReferenceCommand_refuses
    (h : 16 ≤ (s.command.args[0]).toNat ∨ s.command.args[1] ≠ 0x00 ∧ s.command.args[1] ≠ 0x01) :
    s.setReferenceCommand = s.refuse .badArg := by
  unfold State.setReferenceCommand
  split
  · rfl
  · next c hc =>
    have hchannel : c.val = (s.command.args[0]).toNat := byteFin_eq_some.mp hc
    obtain ⟨habsent, hpresent⟩ := h.resolve_left (by omega)
    rw [if_neg hpresent, if_neg habsent]

/-- SET_REFERENCE of channel `c`, by its presence code (R133). -/
theorem State.setReferenceCommand_accepts {c : Fin 16} (hc : (s.command.args[0]).toNat = c.val)
    (h : s.command.args[1] = 0x00 ∨ s.command.args[1] = 0x01) :
    s.setReferenceCommand =
      (s.putReference c
        (if s.command.args[1] = 0x01 then some (word16 s.command.args[2] s.command.args[3]) else none)).accept := by
  have hchannel : byteFin 16 s.command.args[0] = some c := byteFin_eq_some.mpr hc.symm
  rw [State.setReferenceCommand, hchannel]
  by_cases hpresent : s.command.args[1] = 0x01
  · simp only [if_pos hpresent]
  · simp only [if_neg hpresent, if_pos (h.resolve_right hpresent)]

/-! ### DEVIATION_SET -/

/-- The clear requests of a byte, each as what is left of its channel's place in the deviation set. -/
theorem State.requestDeviationClear_eq (k : Nat) (v : Byte) (s : State) :
    s.requestDeviationClear k v =
      { s with monitors := Vector.ofFn fun c : Fin 16 => { s.monitors[c] with
          inSet := (s.monitors[c]).inSet
            && !(decide (c.val / 8 = k) && v.getLsbD (c.val % 8) && !s.deviates c) } } := by
  unfold State.requestDeviationClear
  congr 2
  funext c
  split
  · next h => simp [h]
  · next h =>
    have hkept : (decide (c.val / 8 = k) && v.getLsbD (c.val % 8) && !s.deviates c) = false := by
      simpa [and_assoc] using h
    rw [hkept, Bool.not_false, Bool.and_true]

/-- A byte at 1Eh. -/
theorem exec_deviationClear_low (hs : s.takesByteAt 0x1E) (v : Byte) :
    exec (.deviationSetClearRequest v) s = .next (s.advance.requestDeviationClear 0 v) := by
  have hrow : exec (.deviationSetClearRequest v) s = execDeviationSetClearRequest v s := rfl
  rw [hrow, execDeviationSetClearRequest, if_pos ((State.writingAt_iff _ _).mpr hs.1), State.takeRegister_eq,
    if_neg hs.2]

/-- A byte at 1Fh. -/
theorem exec_deviationClear_high (hs : s.takesByteAt 0x1F) (v : Byte) :
    exec (.deviationSetClearRequest v) s = .next (s.advance.requestDeviationClear 1 v) := by
  have hrow : exec (.deviationSetClearRequest v) s = execDeviationSetClearRequest v s := rfl
  obtain ⟨hwrite, hscheduler⟩ := hs
  have ⟨_, _, hpointer⟩ := hwrite
  have hother : ¬ s.writingAt 0x1E = true := by simp [State.writingAt_iff, State.inWrite, hpointer]
  rw [hrow, execDeviationSetClearRequest, if_neg hother, (State.writingAt_iff _ _).mpr hwrite, State.occur_true,
    State.takeRegister_eq, if_neg hscheduler]

/-! ### The acknowledging read -/

/-- The acknowledged set (R165). -/
theorem Port.mem_acknowledged (p : Port) (c : Fin 16) :
    c ∈ p.acknowledged ↔
      (p.clocked[2 * c.val]'(by omega) && p.clocked[2 * c.val + 1]'(by omega)) = true := by
  simp [Port.acknowledged, channelOrder]

/-- Channel `c` acknowledged with what the snapshot holds of it (R131). -/
def State.acknowledgeChannel (w : ReadSnapshot) (s : State) (c : Fin 16) : State :=
  { s with monitors := s.monitors.set c ((s.monitors[c]).acknowledged (s.channels[c]).band w.latest[c]) }

/-- An acknowledgement takes the acknowledged channels in turn. -/
theorem State.acknowledge_eq_foldl {w : ReadSnapshot} (h : s.port.snapshot = some w) :
    s.acknowledge = s.port.acknowledged.foldl (State.acknowledgeChannel w) s := by
  rw [State.acknowledge, h]
  dsimp only
  congr 1
  funext t c
  split
  · next v hv => rw [State.acknowledgeChannel, hv]; exact t.putReference_eq_set c (some v)
  · next hnone => simp [State.acknowledgeChannel, hnone, MonitorRecord.acknowledged]

/-- Channels acknowledged in turn, each once: no channel's record bears on another's. -/
theorem State.acknowledgeChannels_eq (w : ReadSnapshot) {l : List (Fin 16)} (hl : l.Nodup) : ∀ s : State,
    l.foldl (State.acknowledgeChannel w) s =
      { s with monitors := Vector.ofFn fun c : Fin 16 =>
          if c ∈ l then (s.monitors[c]).acknowledged (s.channels[c]).band w.latest[c] else s.monitors[c] } := by
  induction l with
  | nil => intro s; simp
  | cons c rest ih =>
    intro s
    obtain ⟨hc, hrest⟩ := List.nodup_cons.mp hl
    rw [List.foldl_cons, ih hrest, State.acknowledgeChannel]
    congr 2
    funext d
    by_cases hdc : d = c
    · subst hdc
      simp [hc]
    · simp [hdc, Fin.val_ne_iff.mpr (Ne.symm hdc)]

/-- An acknowledgement, channel by channel (R131). -/
theorem State.acknowledge_eq {w : ReadSnapshot} (h : s.port.snapshot = some w) :
    s.acknowledge =
      { s with monitors := Vector.ofFn fun c : Fin 16 =>
          if c ∈ s.port.acknowledged then (s.monitors[c]).acknowledged (s.channels[c]).band w.latest[c]
          else s.monitors[c] } := by
  rw [State.acknowledge_eq_foldl h]
  exact State.acknowledgeChannels_eq w ((List.nodup_finRange 16).filter _) s

/-- The end of a read with the modifier. -/
theorem exec_acknowledgingRead (bits : Fin 8) (hcsn : s.port.csnLow = true) (h : s.port.acknowledging = true) :
    exec (.acknowledgingRead bits) s = .next s.acknowledge.csnRises := by
  have hrow : exec (.acknowledgingRead bits) s =
    s.occur (s.port.csnLow && s.port.acknowledging) s.acknowledge.csnRises := rfl
  rw [hrow, hcsn, h, Bool.and_self, State.occur_true]

end

/-! ### The statements -/

/-- Settles O30: the two refusals, and the reference put by the presence code. -/
theorem setReferenceSetsAndEvaluates : Obligations.SetReferenceSetsAndEvaluates := by
  unfold Obligations.SetReferenceSetsAndEvaluates
  intro c s hs f told
  refine ⟨fun hrefused => State.occur_refused hs (State.setReferenceCommand_refuses (s := s.advance) hrefused),
    fun hc hpresence => ?_⟩
  have hexec : exec .setReference s = .next (s.advance.setReferenceCommand.leave 0x40) :=
    State.occur_takeCommand hs 0x40 State.setReferenceCommand
  rw [hexec, State.setReferenceCommand_accepts (s := s.advance) hc hpresence, State.accept_leave,
    State.putReference_eq, State.answered_ok]
  rfl

/-- Settles O35: 1Eh holds channels 0 to 7, and 1Fh channels 8 to 15. -/
theorem deviationClearsAreDecidedOneByOne : Obligations.DeviationClearsAreDecidedOneByOne := by
  unfold Obligations.DeviationClearsAreDecidedOneByOne
  intro v s
  constructor
  · intro hs
    have hasked (c : Fin 16) :
        (decide (c.val / 8 = 0) && v.getLsbD (c.val % 8)) = (decide (c.val < 8) && v.getLsbD c.val) := by
      by_cases hc : c.val < 8
      · simp [hc, Nat.mod_eq_of_lt hc, Nat.div_eq_of_lt hc]
      · simp [hc]
    rw [exec_deviationClear_low hs, State.requestDeviationClear_eq]
    simp only [hasked]
    rfl
  · intro hs
    have hasked (c : Fin 16) :
        (decide (c.val / 8 = 1) && v.getLsbD (c.val % 8)) = (decide (8 ≤ c.val) && v.getLsbD (c.val - 8)) := by
      by_cases hc : 8 ≤ c.val
      · have hmod : c.val % 8 = c.val - 8 := by omega
        have hdiv : c.val / 8 = 1 := by omega
        simp [hc, hmod, hdiv]
      · have hdiv : c.val / 8 = 0 := by omega
        simp [hc, hdiv]
    rw [exec_deviationClear_high hs, State.requestDeviationClear_eq]
    simp only [hasked]
    rfl

/-- Settles O40: without a snapshot the port alone changes; with one, each channel's record by itself. -/
theorem acknowledgingReadSetsReferences : Obligations.AcknowledgingReadSetsReferences := by
  unfold Obligations.AcknowledgingReadSetsReferences
  intro bits s hcsn hacknowledging closed seen
  rw [exec_acknowledgingRead bits hcsn hacknowledging]
  refine ⟨fun hnone => ?_, fun w hw => ?_⟩
  · rw [State.acknowledge, hnone]
    rfl
  · intro told
    have hrecord (c : Fin 16) :
        (if c ∈ s.port.acknowledged then (s.monitors[c]).acknowledged (s.channels[c]).band w.latest[c]
          else s.monitors[c]) =
        if seen c && (w.latest[c]).isSome && told.deviates c then { told.monitors[c] with inSet := true }
        else told.monitors[c] := by
      have htold : told.monitors[c] =
          if seen c && (w.latest[c]).isSome then { s.monitors[c] with reference := w.latest[c] } else s.monitors[c] := by
        simp [told]
      have hseen : c ∈ s.port.acknowledged ↔ seen c = true := s.port.mem_acknowledged c
      rw [State.deviates_eq, htold, if_congr hseen rfl rfl, MonitorRecord.acknowledged]
      cases seen c with
      | false => simp
      | true =>
        cases (w.latest[c]).isSome with
        | false => simp
        | true => simp [MonitorRecord.referred, MonitorRecord.reported, told]
    rw [State.acknowledge_eq hw]
    simp only [hrecord]
    rfl

end Sys2Proof.Machine
end

section
/-! SUPPORT. The deviation set along the rows: most rows leave the channel and monitor records, and every row that changes a
band, a latest value or a reference evaluates the channel's condition; and the statement that the set is kept. -/

namespace Sys2Proof.Machine

section
variable (s : State)

/-! ### What the deviation conditions read -/

/-- The channel and monitor records, which are all that the deviation conditions and the deviation set read (R126, R127). -/
def State.readings (s : State) : Vector ChannelRecord 16 × Vector MonitorRecord 16 := (s.channels, s.monitors)

theorem State.DeviationReported.of_readings {s t : State} (h : s.DeviationReported) (hkept : t.readings = s.readings) :
    t.DeviationReported := by
  obtain ⟨hchannels, hmonitors⟩ := Prod.mk.inj hkept
  intro c
  rw [State.deviates_eq, hchannels, hmonitors]
  exact h c

theorem State.ServesOnly.readings_eq {s t : State} (h : s.ServesOnly t) : t.readings = s.readings :=
  congrArg₂ Prod.mk h.channels_eq h.monitors_eq

@[simp] theorem State.endRequest_readings (k : Converter) : (s.endRequest k).readings = s.readings := by
  rw [State.endRequest_eq]
  rfl

@[simp] theorem State.arbitrate_readings : s.arbitrate.readings = s.readings :=
  s.arbitrate_servesOnly.readings_eq

@[simp] theorem State.goOn_readings (p : Nat) : (s.goOn p).readings = s.readings := by
  have hturn := (State.takeTurn_servesOnly p s).readings_eq
  unfold State.goOn
  split
  · next t h => rw [h] at hturn; exact hturn
  · next t h => rw [h] at hturn; simpa using hturn

@[simp] theorem State.abortWork_endPausing_readings (reason : AbortReason) (k : Converter) :
    (s.abortWork reason k).endPausing.readings = s.readings := by
  rw [State.abortWork_endPausing, State.endRequest_readings]
  rfl

@[simp] theorem State.expire_readings (c : Fin 16) : (s.expire c).readings = s.readings :=
  (State.expire_frame c s).readings_eq

@[simp] theorem State.takeExpiries_readings : s.takeExpiries.readings = s.readings := by
  unfold State.takeExpiries
  refine List.foldlRecOn (motive := fun t : State => t.readings = s.readings) channelOrder _ rfl fun t ht c _ => ?_
  split
  · rw [State.expire_readings, ht]
  · exact ht

@[simp] theorem State.acceptTrigger_readings (i : Fin 2) : (s.acceptTrigger i).readings = s.readings :=
  (State.acceptTrigger_frame i s).readings_eq

theorem State.recadence_readings (i : Fin 16) (old : ChannelRecord) : (s.recadence i old).readings = s.readings := by
  rw [State.recadence_eq]
  split_ifs
  case neg =>
    unfold State.arm
    split
    · exact State.expire_readings _ i
    · rfl
  all_goals rfl

/-! ### Commands that leave the records -/

theorem State.startCommand_readings : s.startCommand.state.readings = s.readings := by
  unfold State.startCommand
  split
  · simp only [State.accept_state, State.arbitrate_readings, State.takeExpiries_readings]
    rfl
  · rfl

theorem State.pauseCommand_readings : s.pauseCommand.state.readings = s.readings := by
  unfold State.pauseCommand
  split
  · split <;> rfl
  all_goals rfl

theorem State.resumeCommand_readings : s.resumeCommand.state.readings = s.readings := by
  unfold State.resumeCommand
  split
  case h_2 => exact State.arbitrate_readings _
  all_goals rfl

theorem State.stopCommand_readings : s.stopCommand.state.readings = s.readings := by
  cases haccepts : s.scheduler.accepts with
  | true => rw [State.stopCommand_eq haccepts]; rfl
  | false => simp [State.stopCommand, haccepts]

theorem State.abortCommand_readings : s.abortCommand.state.readings = s.readings := by
  unfold State.abortCommand
  split <;> simp

theorem State.postCommand_readings : s.postCommand.state.readings = s.readings := by
  unfold State.postCommand
  split
  · rfl
  · split
    · rfl
    · dsimp only
      split_ifs
      case neg => exact (State.postImmediate_servesOnly _ s).readings_eq
      all_goals rfl

theorem State.softTriggerCommand_readings : s.softTriggerCommand.state.readings = s.readings := by
  unfold State.softTriggerCommand
  split
  · rfl
  · split
    · rfl
    · split_ifs <;> simp

theorem State.calibrateCommand_readings : s.calibrateCommand.state.readings = s.readings := by
  unfold State.calibrateCommand
  split_ifs
  case neg =>
    exact List.foldlRecOn (motive := fun t : State => t.readings = s.readings) _ _ rfl fun t ht m _ =>
      (State.postMaintenance_servesOnly m t).readings_eq.trans ht
  all_goals rfl

theorem State.readTableCommand_readings : s.readTableCommand.state.readings = s.readings := by
  unfold State.readTableCommand
  split
  · rfl
  · simp only [State.accept_state, State.readings]

theorem State.swapCommand_readings : s.swapCommand.state.readings = s.readings := by
  unfold State.swapCommand
  split_ifs <;> rfl

theorem State.releaseCommand_readings : s.releaseCommand.state.readings = s.readings := by
  unfold State.releaseCommand
  split
  · rfl
  · dsimp only
    split_ifs <;> rfl

theorem State.configCommand_readings : s.configCommand.state.readings = s.readings := by
  unfold State.configCommand
  dsimp only
  split
  · rfl
  · split_ifs <;> rfl

theorem State.setTickCommand_readings : s.setTickCommand.state.readings = s.readings := by
  unfold State.setTickCommand
  split_ifs <;> rfl

/-! ### Registers and events that leave the records -/

theorem State.clearFlagsHigh_readings (v : Byte) : (s.clearFlagsHigh v).readings = s.readings := by
  unfold State.clearFlagsHigh State.requestRefFaultClear
  dsimp only
  split_ifs
  · rfl
  · exact State.arbitrate_readings _
  · rfl
  · rfl

theorem State.storeByte_readings (a v : Byte) : (s.storeByte a v).readings = s.readings := by
  unfold State.storeByte
  dsimp only
  split_ifs <;> rfl

theorem State.csnFalls_readings (sclkHigh : Bool) : (s.csnFalls sclkHigh).readings = s.readings := by
  unfold State.csnFalls
  split <;> rfl

theorem State.leaveStarting_readings : s.leaveStarting.readings = s.readings := by
  rw [State.leaveStarting_eq]
  rfl

theorem State.tick_readings : s.tick.readings = s.readings := by
  rw [← s.takeExpiries_readings]
  simp only [State.tick, State.readings]

theorem State.changeLevel_readings (i : Fin 2) (level : Bool) : (s.changeLevel i level).readings = s.readings := by
  unfold State.changeLevel
  dsimp only
  split_ifs
  · rfl
  · exact State.acceptTrigger_readings _ i
  · rfl

theorem State.haltForReference_readings : s.haltForReference.readings = s.readings := by
  unfold State.haltForReference
  split
  case h_4 =>
    dsimp only
    split
    · exact s.abortWork_endPausing_readings _ _
    · rfl
  case h_5 | h_6 => rfl
  all_goals exact s.abortWork_endPausing_readings _ _

theorem State.completeCalibration_readings {request : Merged CalTarget}
    (hcurrent : s.seq.current = some (.maintenance request)) (raw : Word16) :
    (s.completeCalibration raw request).readings = s.readings := by
  rw [State.completeCalibration_eq hcurrent rfl, State.arbitrate_readings]
  rfl

theorem State.endRecovery_readings : s.endRecovery.readings = s.readings := by
  unfold State.endRecovery
  split_ifs
  · rfl
  · exact s.goOn_readings _
  · exact State.arbitrate_readings _

end

section
variable {s : State}

/-! ### Rows that change a record -/

/-- A change to the records of channel `c` alone, followed by the evaluation of `c`, keeps the set (R127). -/
theorem State.DeviationReported.evaluate (h : s.DeviationReported) {t : State} {c : Fin 16}
    (hothers : ∀ d ≠ c, t.channels[d] = s.channels[d] ∧ t.monitors[d] = s.monitors[d]) :
    (t.evaluate c).DeviationReported := by
  intro d hd
  rw [State.evaluate_eq, State.evaluated_eq, State.deviates_eq] at hd
  rw [State.evaluate_eq, State.evaluated_eq]
  by_cases hdc : d = c
  · subst hdc
    simp only [Fin.getElem_fin, Vector.getElem_set_self] at hd ⊢
    exact MonitorRecord.inSet_reported ((MonitorRecord.deviates_reported _ _).symm.trans hd)
  · obtain ⟨hchannel, hmonitor⟩ := hothers d hdc
    simp only [Fin.getElem_fin, Vector.getElem_set_ne _ _ (Fin.val_ne_iff.mpr (Ne.symm hdc))] at hd hchannel hmonitor ⊢
    rw [hchannel, hmonitor] at hd
    rw [hmonitor]
    exact h d hd

/-- Another reference for channel `c` (R131, R133). -/
theorem State.DeviationReported.putReference (h : s.DeviationReported) (c : Fin 16) (f : Option Word16) :
    (s.putReference c f).DeviationReported :=
  h.evaluate fun d hd => ⟨rfl, by simp [Fin.val_ne_iff.mpr hd.symm]⟩

/-- Another latest value for channel `c` (R125). -/
theorem State.DeviationReported.recordSample (h : s.DeviationReported) (c : Fin 16) (v : Word16) :
    (s.recordSample c v).DeviationReported :=
  h.evaluate fun d hd => ⟨rfl, by simp [Fin.val_ne_iff.mpr hd.symm]⟩

/-- Another record, and so another band, for channel `i` (R12). -/
theorem State.DeviationReported.storeChannel (h : s.DeviationReported) (i : Fin 16) (new : ChannelRecord) :
    (s.storeChannel i new).DeviationReported := by
  by_cases hkeeps : (s.channels[i]).enabled = true → new.enabled = true
  · obtain ⟨hchannels, hmonitors⟩ := Prod.mk.inj
      (State.recadence_readings { s with channels := s.channels.set i new } i s.channels[i])
    rw [State.storeChannel_of_not_disable hkeeps]
    refine h.evaluate fun d hd => ?_
    rw [hchannels, hmonitors]
    exact ⟨by simp [Fin.val_ne_iff.mpr hd.symm], rfl⟩
  · obtain ⟨hold, hnew⟩ : (s.channels[i]).enabled = true ∧ new.enabled = false := by simpa using hkeeps
    rw [State.storeChannel_of_disable hold hnew, State.disable_eq]
    exact h.evaluate fun d hd => ⟨by simp [Fin.val_ne_iff.mpr hd.symm], rfl⟩

theorem State.DeviationReported.writeTableCommand (h : s.DeviationReported) :
    s.writeTableCommand.state.DeviationReported := by
  unfold State.writeTableCommand
  split
  · next i _ =>
    unfold State.writeChannel
    split
    · exact h
    · exact h.storeChannel i _
  · unfold State.writeGroup
    split
    · exact h
    · split_ifs <;> exact h
  · unfold State.writeTrigger
    split
    · exact h
    · split_ifs <;> exact h
  · unfold State.writePhase
    split <;> exact h
  all_goals exact h

theorem State.DeviationReported.setReferenceCommand (h : s.DeviationReported) :
    s.setReferenceCommand.state.DeviationReported := by
  unfold State.setReferenceCommand
  split
  · exact h
  · next c _ =>
    split_ifs
    · exact h.putReference c _
    · exact h.putReference c _
    · exact h

/-- A clear request takes out of the set only channels whose condition does not hold (R128). -/
theorem State.DeviationReported.requestDeviationClear (h : s.DeviationReported) (k : Nat) (v : Byte) :
    (s.requestDeviationClear k v).DeviationReported := by
  rw [State.requestDeviationClear_eq]
  intro c hc
  rw [State.deviates_eq] at hc
  simp only [Fin.getElem_fin, Vector.getElem_ofFn] at hc ⊢
  have hdeviates : s.deviates c = true := hc
  simpa [hdeviates] using h c hdeviates

theorem State.DeviationReported.acknowledge (h : s.DeviationReported) : s.acknowledge.DeviationReported := by
  unfold State.acknowledge
  split
  · exact h
  · refine List.foldlRecOn (motive := State.DeviationReported) _ _ h fun t ht c _ => ?_
    split
    · exact ht.putReference c _
    · exact ht

theorem State.DeviationReported.completeMember (h : s.DeviationReported) (raw : Word16) (r : Request) (c : Fin 16)
    (m : MemberSnapshot) : (s.completeMember raw r c m).DeviationReported := by
  rw [State.completeMember_eq]
  refine (h.recordSample c (correct raw s.calibration[m.gain])).of_readings ?_
  rw [State.goOn_readings, State.recordSample_eq]
  rfl

/-- After a reset no channel has a latest value (R124). -/
theorem State.deviationReported_of_reset {t : State}
    (h : t.monitors = Vector.replicate 16 { latest := none, reference := none, inSet := false }) :
    t.DeviationReported := by
  intro c hc
  rw [State.deviates_eq, h] at hc
  simp [MonitorRecord.deviates] at hc

/-! ### Every row -/

/-- The row of a command that keeps the set. -/
theorem State.DeviationReported.commandRow (h : s.DeviationReported) {f : State → Answer} (b : Bool) (code : Byte)
    (hf : s.advance.DeviationReported → (f s.advance).state.DeviationReported) :
    Leaves State.DeviationReported (s.occur b (s.takeCommand code f)) := by
  refine leaves_occur h fun _ => ?_
  by_cases hs : s.scheduler = .starting
  · rw [State.takeCommand_starting _ _ _ hs]
    exact h
  · rw [State.takeCommand_eq _ _ _ hs, Answer.leave_eq]
    exact hf h

/-- The row of a command that leaves the records. -/
theorem State.DeviationReported.quietCommandRow (h : s.DeviationReported) {f : State → Answer} (b : Bool) (code : Byte)
    (hf : ∀ t : State, (f t).state.readings = t.readings) :
    Leaves State.DeviationReported (s.occur b (s.takeCommand code f)) :=
  h.commandRow b code fun ht => ht.of_readings (hf s.advance)

/-- A register byte that keeps the set. -/
theorem State.DeviationReported.takeRegister (h : s.DeviationReported) {f : State → State}
    (hf : s.advance.DeviationReported → (f s.advance).DeviationReported) : (s.takeRegister f).DeviationReported := by
  rw [State.takeRegister_eq]
  split
  · exact h
  · exact hf h

/-- Each of the 46 rows keeps every channel whose deviation condition holds in the deviation set. -/
theorem exec_keeps_deviationReported (i : Instr) (s : State) (h : s.DeviationReported) :
    Leaves State.DeviationReported (exec i s) := by
  cases i with
  | tableWrite => exact h.commandRow _ _ fun ht => ht.writeTableCommand
  | setReference => exact h.commandRow _ _ fun ht => ht.setReferenceCommand
  | start => exact h.quietCommandRow _ _ State.startCommand_readings
  | pause => exact h.quietCommandRow _ _ State.pauseCommand_readings
  | resume => exact h.quietCommandRow _ _ State.resumeCommand_readings
  | stop => exact h.quietCommandRow _ _ State.stopCommand_readings
  | abortCurrent => exact h.quietCommandRow _ _ State.abortCommand_readings
  | post => exact h.quietCommandRow _ _ State.postCommand_readings
  | softTrigger => exact h.quietCommandRow _ _ State.softTriggerCommand_readings
  | calibrate => exact h.quietCommandRow _ _ State.calibrateCommand_readings
  | tableRead => exact h.quietCommandRow _ _ State.readTableCommand_readings
  | swapBanks => exact h.quietCommandRow _ _ State.swapCommand_readings
  | ringRelease => exact h.quietCommandRow _ _ State.releaseCommand_readings
  | ringClear => exact h.quietCommandRow _ _ fun _ => rfl
  | ringConfig => exact h.quietCommandRow _ _ State.configCommand_readings
  | setTick => exact h.quietCommandRow _ _ State.setTickCommand_readings
  | unknownCommandCode code => exact h.quietCommandRow _ _ fun _ => rfl
  | deviceReset =>
    refine leaves_occur h fun _ => ?_
    unfold State.resetCommand
    split
    · next hs => rw [State.takeCommand_starting _ _ _ hs]; exact h
    · exact State.deviationReported_of_reset rfl
  | deviationSetClearRequest value =>
    exact leaves_either h (h.takeRegister fun ht => ht.requestDeviationClear 0 value)
      (h.takeRegister fun ht => ht.requestDeviationClear 1 value)
  | clearLatchedFlag value =>
    exact leaves_either h (h.takeRegister fun ht => ht)
      (h.takeRegister fun ht => ht.of_readings (State.clearFlagsHigh_readings _ value))
  | refFaultClear value =>
    exact leaves_occur h fun _ => h.takeRegister fun ht => ht.of_readings (State.clearFlagsHigh_readings _ value)
  | alertEnableWrite value => exact leaves_either h (h.takeRegister fun ht => ht) (h.takeRegister fun ht => ht)
  | alertMasterWrite value => exact leaves_occur h fun _ => h.takeRegister fun ht => ht
  | registerWrite value =>
    exact leaves_occur h fun _ => h.takeRegister fun ht => ht.of_readings (State.storeByte_readings _ _ value)
  | acknowledgingRead partialBits => exact leaves_occur h fun _ => h.acknowledge
  | rstnLow | por => exact leaves_next (State.deviationReported_of_reset rfl)
  | referenceRecovery => exact leaves_next h
  | readSnapshot | rstnRise | supplyEstablished | holdoffEnd | endOfSettling | headerByte | writeAddressByte | readDataByte
    | csnRise => exact leaves_occur h fun _ => h
  | endOfStarting => exact leaves_occur h fun _ => h.of_readings s.leaveStarting_readings
  | tick => exact leaves_occur h fun _ => h.of_readings s.tick_readings
  | cadenceExpiry channel => exact leaves_occur h fun _ => h.of_readings (s.expire_readings channel)
  | triggerEdge input level => exact leaves_occur h fun _ => h.of_readings (s.changeLevel_readings input level)
  | referenceOnset =>
    refine leaves_next ?_
    dsimp only
    split
    · exact h
    · exact h.of_readings (State.haltForReference_readings _)
  | conversionCompletion raw =>
    simp only [exec, execConversionCompletion]
    split
    · exact leaves_occur h fun _ => h.completeMember raw _ _ _
    · exact leaves_next h
  | calibrationCompletion raw =>
    simp only [exec, execCalibrationCompletion]
    split
    · next hcurrent => exact leaves_occur h fun _ => h.of_readings (s.completeCalibration_readings hcurrent raw)
    · exact leaves_next h
  | endOfRecovery => exact leaves_occur h fun _ => h.of_readings s.endRecovery_readings
  | csnFall sclkHigh => exact leaves_occur h fun _ => h.of_readings (s.csnFalls_readings sclkHigh)

end

/-- Settles O57: every row keeps the set, and DEVIATION is computed from it. -/
theorem deviationsStayReported : Obligations.DeviationsStayReported :=
  fun _ t hs h => ⟨step_keeps (fun _ _ ht => ht) exec_keeps_deviationReported hs h, t.deviationFlag_iff⟩

end Sys2Proof.Machine
end

section
/-! SUPPORT. What the run commands leave; the statements on their refusals, on PAUSE and on RESUME, and on the data
bytes of a write during STARTING. -/

namespace Sys2Proof.Machine

section
variable {s : State}

/-! ### Refusals -/

theorem State.startCommand_refused (h : s.scheduler ≠ .stopped) : s.startCommand = s.refuse .badState := if_neg h

theorem State.pauseCommand_refused (h : s.scheduler = .stopped ∨ s.scheduler = .paused) :
    s.pauseCommand = s.refuse .badState := by
  obtain h | h := h <;> simp [State.pauseCommand, h]

theorem State.resumeCommand_refused (h : s.scheduler = .stopped ∨ s.scheduler = .running) :
    s.resumeCommand = s.refuse .badState := by
  obtain h | h := h <;> simp [State.resumeCommand, h]

theorem State.stopCommand_refused (h : s.scheduler = .stopped) : s.stopCommand = s.refuse .badState := by
  simp [State.stopCommand, Scheduler.not_accepts_of_stopped h]

/-- The row of an unknown code asks for a code that names no command. -/
theorem exec_unknownCommandCode {code : Byte} (h : code ∉ commandCodes) :
    exec (.unknownCommandCode code) s = s.occur (s.writingAt 0x14) (s.takeCommand code (State.refuse .badArg)) := by
  have hwell : (Instr.unknownCommandCode code).wellFormed = true := by simp [Instr.wellFormed, h]
  have hrow : exec (.unknownCommandCode code) s =
      s.occur (s.writingAt 0x14 && (Instr.unknownCommandCode code).wellFormed)
        (s.takeCommand code (State.refuse .badArg)) := rfl
  rw [hrow, hwell, Bool.and_true]

/-- Settles O8: each command refused on the state past CMD. -/
theorem refusedRunCommandsAndUnknownCodes : Obligations.RefusedRunCommandsAndUnknownCodes := by
  intro code s hs
  refine ⟨fun h => ?_, fun h => ?_, fun h => ?_, fun h => ?_, fun hcode => ?_⟩
  · exact State.occur_refused hs (State.startCommand_refused (s := s.advance) h)
  · exact State.occur_refused hs (State.pauseCommand_refused (s := s.advance) h)
  · exact State.occur_refused hs (State.resumeCommand_refused (s := s.advance) h)
  · exact State.occur_refused hs (State.stopCommand_refused (s := s.advance) h)
  · rw [exec_unknownCommandCode hcode]
    exact State.occur_refused hs rfl

/-! ### PAUSE -/

theorem State.pauseCommand_pausing (h : s.scheduler = .pausing) : s.pauseCommand = s.accept := by
  simp [State.pauseCommand, h]

theorem State.pauseCommand_running (h : s.scheduler = .running) :
    s.pauseCommand =
      if s.seq.current.isSome then ({ s with scheduler := .pausing } : State).accept
      else (({ s with scheduler := .paused } : State).raise .runChange).accept := by
  simp [State.pauseCommand, h]

/-- Settles O9: PAUSING goes on, and a RUNNING scheduler waits for the current request, or is PAUSED at once. -/
theorem pauseFollowsTheCurrentRequest : Obligations.PauseFollowsTheCurrentRequest := by
  intro s hs hscheduler
  have hexec : exec .pause s = .next (s.advance.pauseCommand.leave 0x02) := State.occur_takeCommand hs 0x02 _
  rw [hexec]
  obtain hrunning | hpausing := hscheduler
  · have hnot : s.scheduler ≠ .pausing := fun h => nomatch hrunning.symm.trans h
    rw [State.pauseCommand_running (s := s.advance) hrunning, if_neg hnot, State.advance_seq]
    split
    · rw [State.accept_leave, State.answered_ok]
      rfl
    · rw [State.raise_eq, Alerts.also_congr (f := fun f => decide (f = .runChange)), State.accept_leave,
        State.answered_ok]
      · rfl
      · intro f; cases f <;> rfl
  · rw [State.pauseCommand_pausing (s := s.advance) hpausing, if_pos hpausing, State.advance_accept_leave]

/-! ### RESUME -/

theorem State.resumeCommand_pausing (h : s.scheduler = .pausing) :
    s.resumeCommand = ({ s with scheduler := .running } : State).accept := by
  simp [State.resumeCommand, h]

theorem State.resumeCommand_paused (h : s.scheduler = .paused) :
    s.resumeCommand = (({ s with scheduler := .running } : State).arbitrate).accept := by
  simp [State.resumeCommand, h]

/-- The state that RESUME leaves before its arbitration (R142). -/
def State.resumed (s : State) : State := { s.answered 0x03 .ok .none with scheduler := .running }

theorem State.resumed_eq_leave (s : State) :
    s.resumed = ({ s.advance with scheduler := .running } : State).accept.leave 0x03 := by
  rw [State.accept_leave, State.resumed, State.answered_ok]
  rfl

/-- RESUME from PAUSED: its answer might have come before its arbitration. -/
theorem exec_resume_paused (hs : s.takesByteAt 0x14) (h : s.scheduler = .paused) :
    exec .resume s = .next s.resumed.arbitrate := by
  have hexec : exec .resume s = .next (s.advance.resumeCommand.leave 0x03) := State.occur_takeCommand hs 0x03 _
  rw [hexec, State.resumeCommand_paused (s := s.advance) h, State.arbitrate_accept_leave, State.resumed_eq_leave]

/-- Arbitration grants nothing while the converter is not IDLE or no request waits. -/
theorem State.resumed_arbitrate (h : s.seq.converter ≠ .idle ∨ s.queues = .none) : s.resumed.arbitrate = s.resumed := by
  obtain hbusy | hnone := h
  · refine State.arbitrate_of_not_free (Bool.eq_false_iff.mpr fun hfree => hbusy ?_)
    exact ((State.free_iff _).mp hfree).2.1
  · exact State.arbitrate_of_search_none (s.resumed.search_none_of_empty hnone)

/-- Settles O10: from PAUSING the scheduler alone changes; from PAUSED arbitration follows. -/
theorem resumeReturnsToRunning : Obligations.ResumeReturnsToRunning := by
  intro s hs running
  refine ⟨fun h => ?_, exec_resume_paused hs⟩
  obtain hpausing | ⟨hpaused, hquiet⟩ := h
  · have hexec : exec .resume s = .next (s.advance.resumeCommand.leave 0x03) := State.occur_takeCommand hs 0x03 _
    rw [hexec, State.resumeCommand_pausing (s := s.advance) hpausing, ← State.resumed_eq_leave]
    rfl
  · rw [exec_resume_paused hs hpaused, State.resumed_arbitrate hquiet]
    rfl

/-! ### Data bytes during STARTING -/

/-- Where a write's data byte is due at one address, it is due at that one alone. -/
theorem State.writingAt_eq {a : Byte} (h : s.inWrite a) (b : Byte) : s.writingAt b = decide (a = b) := by
  obtain ⟨hphase, hwrite, hpointer⟩ := h
  rw [Bool.eq_iff_iff, State.writingAt_iff]
  simp [State.inWrite, hphase, hwrite, hpointer]

theorem State.takeRegister_starting (h : s.scheduler = .starting) (f : State → State) :
    s.takeRegister f = s.advance := by
  rw [State.takeRegister_eq, if_pos h]

theorem commandOfCode_unknown {v : Byte} (h : v ∉ commandCodes) : commandOfCode v = .unknownCommandCode v := by
  simp only [commandCodes, List.mem_cons, List.not_mem_nil, or_false, not_or] at h
  simp only [commandOfCode, h, if_false]

/-- Every command's byte in STARTING is answered NOT_READY, DEVICE_RESET and unknown codes among them. -/
theorem exec_commandOfCode_starting (h : s.inWrite 0x14) (hstarting : s.scheduler = .starting) (v : Byte) :
    exec (commandOfCode v) s = .next (s.answered v .notReady .none) := by
  by_cases hcode : v ∈ commandCodes
  · have hreset : s.resetCommand = s.takeCommand 0x5A (State.refuse .notReady) := if_pos hstarting
    simp only [commandCodes, List.mem_cons, List.not_mem_nil, or_false] at hcode
    obtain rfl | rfl | rfl | rfl | rfl | rfl | rfl | rfl | rfl | rfl | rfl | rfl | rfl | rfl | rfl | rfl | rfl := hcode
    pick_goal 17
    · exact (congrArg (s.occur _) hreset).trans (State.occur_starting h hstarting _ _)
    all_goals exact State.occur_starting h hstarting _ _
  · rw [commandOfCode_unknown hcode, exec_unknownCommandCode hcode]
    exact State.occur_starting h hstarting _ _

/-- A row with its effect at either of two addresses. -/
theorem State.occur_either (a b : Bool) (s t : State) :
    (if a then .next t else s.occur b t) = s.occur (a || b) t := by
  cases a <;> rfl

/-- The row that a register's byte is can occur where that byte is due. -/
theorem occurs_registerByte {a : Byte} (h : s.inWrite a) (ha : a ≠ 0x14) (v : Byte) :
    occurs (rowOfDataByte a v) s = true := by
  have hwriting := State.writingAt_eq h
  have hown (hrest : a ∉ ownRowAddresses) : (s.writing && !ownRowAddresses.contains s.port.pointer) = true := by
    obtain ⟨hphase, hwrite, hpointer⟩ := h
    simp [State.writing, hphase, hwrite, hpointer, hrest]
  unfold rowOfDataByte
  rw [if_neg ha]
  split_ifs with hfault hflags henable hmaster hdeviation
  · obtain ⟨haddress, hbit⟩ := hfault
    simp only [occurs, hwriting, haddress, Instr.wellFormed, hbit, decide_true, Bool.and_self]
  · simpa only [occurs, hwriting, Bool.or_eq_true, decide_eq_true_eq] using hflags
  · simpa only [occurs, hwriting, Bool.or_eq_true, decide_eq_true_eq] using henable
  · simpa only [occurs, hwriting, decide_eq_true_eq] using hmaster
  · simpa only [occurs, hwriting, Bool.or_eq_true, decide_eq_true_eq] using hdeviation
  · refine hown ?_
    simp only [ownRowAddresses, List.mem_cons, List.not_mem_nil, or_false]
    tauto

/-- The byte of a register in STARTING moves the pointer alone. -/
theorem exec_registerByte_starting {a : Byte} (h : s.inWrite a) (hstarting : s.scheduler = .starting) (ha : a ≠ 0x14)
    (v : Byte) : exec (rowOfDataByte a v) s = .next s.advance := by
  have hrow : exec (rowOfDataByte a v) s = s.occur (occurs (rowOfDataByte a v) s) s.advance := by
    unfold rowOfDataByte
    rw [if_neg ha]
    split_ifs
    all_goals
      simp only [exec, execRefFaultClear, execClearLatchedFlag, execAlertEnableWrite, execAlertMasterWrite,
        execDeviationSetClearRequest, execRegisterWrite, State.takeRegister_starting hstarting, State.occur_either,
        occurs]
  rw [hrow, occurs_registerByte h ha, State.occur_true]

/-- Settles O4: CMD's byte is a command of some code, and every other byte a register's. -/
theorem dataBytesDuringStarting : Obligations.DataBytesDuringStarting := by
  intro a v s h hstarting
  by_cases ha : a = 0x14
  · subst ha
    have hrow : rowOfDataByte 0x14 v = commandOfCode v := if_pos rfl
    rw [hrow, if_pos rfl, exec_commandOfCode_starting h hstarting]
  · rw [exec_registerByte_starting h hstarting ha, if_neg ha]
    rfl

end
end Sys2Proof.Machine
end

section
/-! SUPPORT. The bytes of a transaction by their bits; and the statements on the frame of a transaction and on reads. -/

namespace Sys2Proof.Machine

section
variable {s : State}

/-! ### Bytes and bits -/

/-- A number's upper bits, and the next bit, are its upper bits from that one on. -/
theorem two_mul_shiftRight_add_testBit (n i : Nat) : 2 * (n >>> (i + 1)) + (n.testBit i).toNat = n >>> i := by
  have hbit : (n.testBit i).toNat = n >>> i % 2 := by
    rw [Nat.toNat_testBit, Nat.shiftRight_eq_div_pow]
  rw [hbit, Nat.shiftRight_succ]
  omega

/-- The first `k` bits of a word, most significant first, are its top `k` bits as a number. -/
theorem foldl_getMsbD {w : Nat} (v : BitVec w) {k : Nat} (hk : k ≤ w) :
    ((List.range k).map v.getMsbD).foldl (fun n b => 2 * n + b.toNat) 0 = v.toNat >>> (w - k) := by
  induction k with
  | zero => exact (Nat.shiftRight_eq_zero _ _ v.isLt).symm
  | succ k ih =>
    have hbit : v.getMsbD k = v.toNat.testBit (w - (k + 1)) := by
      rw [BitVec.getMsbD_eq_getLsbD, decide_eq_true (Nat.lt_of_succ_le hk), Bool.true_and, BitVec.getLsbD,
        Nat.sub_sub, Nat.add_comm 1 k]
    have hplace : w - k = w - (k + 1) + 1 := by omega
    rw [List.range_succ, List.map_append, List.foldl_append, ih (Nat.le_of_succ_le hk), hplace]
    exact (congrArg (fun b => _ + Bool.toNat b) hbit).trans (two_mul_shiftRight_add_testBit _ _)

/-- The eight bits of a byte, most significant first, are that byte (R160). -/
theorem byteOfBits_getMsbD (v : Byte) : byteOfBits ((List.range 8).map v.getMsbD) = v := by
  rw [byteOfBits, foldl_getMsbD v le_rfl, Nat.sub_self, Nat.shiftRight_zero, BitVec.ofNat_toNat, BitVec.setWidth_eq]

/-! ### The edges of CSN and the header -/

/-- A row that can occur has its effect. -/
theorem State.occur_possible {b : Bool} {t : State} (h : b = true) : s.occur b t = .next t := by
  rw [h, State.occur_true]

theorem exec_csnFall (h : s.port.csnLow = false) (sclk : Bool) : exec (.csnFall sclk) s = .next (s.csnFalls sclk) :=
  State.occur_possible (by rw [h, Bool.not_false])

theorem exec_headerByte (h : s.port.phase = .header) (v : Byte) :
    exec (.headerByte v) s = .next { s with port := s.port.takeHeader v } :=
  State.occur_possible (decide_eq_true h)

/-- The three headers of a transaction, and every other byte, which makes it an ignored one (R161). -/
theorem Port.takeHeader_eq (v : Byte) (p : Port) :
    p.takeHeader v =
      { p with
        phase := if v = 0x00 ∨ v = 0x80 ∨ v = 0xC0 then .address else .ignored
        direction := if v = 0x00 then .write else if v = 0x80 ∨ v = 0xC0 then .read else p.direction
        acknowledge := v == 0xC0
        clocked := Vector.replicate 32 false } := by
  unfold Port.takeHeader
  by_cases hwrite : v = 0x00
  · subst hwrite; rfl
  · by_cases hread : v = 0x80
    · subst hread; rfl
    · by_cases hacknowledge : v = 0xC0
      · subst hacknowledge; rfl
      · simp only [hwrite, hread, hacknowledge, if_false, or_self, beq_false_of_ne, ne_eq, not_false_eq_true]

theorem exec_writeAddressByte (hphase : s.port.phase = .address) (hwrite : s.port.direction = .write) (v : Byte) :
    exec (.writeAddressByte v) s = .next { s with port := { s.port with phase := .data, pointer := v } } :=
  State.occur_possible (decide_eq_true ⟨hphase, hwrite⟩)

theorem exec_csnRise (hcsn : s.port.csnLow = true) (h : s.port.acknowledging = false) (bits : Fin 8) :
    exec (.csnRise bits) s = .next s.csnRises :=
  State.occur_possible (by rw [hcsn, h, Bool.not_false, Bool.and_self])

/-! ### The edges of SCLK -/

theorem State.sampleBit_idle (h : s.port.csnLow = false ∨ s.held = true) (sdi : Bool) : s.sampleBit sdi = .next s := by
  obtain h | h := h <;> simp [State.sampleBit, h]

/-- A bit that does not complete its byte is counted. -/
theorem State.sampleBit_counts (hcsn : s.port.csnLow = true) (hheld : s.held = false) (h : s.port.bits.length < 7)
    (sdi : Bool) : s.sampleBit sdi = .next { s with port := { s.port with bits := s.port.bits ++ [sdi] } } := by
  simp [State.sampleBit, hcsn, hheld, h]

/-- The eighth bit completes a byte, whose row, if it has one, is taken. -/
theorem State.sampleBit_completes (hcsn : s.port.csnLow = true) (hheld : s.held = false) {v : Byte}
    (h : s.port.bits = (List.range 7).map v.getMsbD) :
    s.sampleBit (v.getMsbD 7) =
      match s.port.rowOfByte v with
      | some c => exec c { s with port := { s.port with bits := [] } }
      | none => .next { s with port := { s.port with bits := [] } } := by
  have hbits : s.port.bits ++ [v.getMsbD 7] = (List.range 8).map v.getMsbD := by
    rw [h, List.range_succ (n := 7), List.map_append]
    rfl
  have hdue : (s.port.csnLow && !s.held) = true := by rw [hcsn, hheld, Bool.not_false, Bool.and_self]
  have hlength : ¬ ((List.range 8).map v.getMsbD).length < 8 := by simp
  unfold State.sampleBit
  rw [if_pos hdue, hbits]
  dsimp only
  rw [if_neg hlength, byteOfBits_getMsbD]
  rfl

/-- Settles O37: each row of the frame where it can occur, and the edges of SCLK by the bits before them. -/
theorem transactionFrame : Obligations.TransactionFrame := by
  intro sclk sdi v bits s whole
  refine ⟨fun hcsn hheld => ?_, fun hcsn hheld => ?_, fun hphase => ?_, fun hphase hwrite => ?_,
    fun hcsn h => ?_, fun hcsn hheld hbits => ?_, fun hcsn hheld hbits => ?_, fun h => ?_⟩
  · rw [exec_csnFall hcsn, State.csnFalls, hheld]
    rfl
  · rw [exec_csnFall hcsn, State.csnFalls, hheld]
    rfl
  · rw [exec_headerByte hphase, Port.takeHeader_eq]
  · exact exec_writeAddressByte hphase hwrite v
  · exact exec_csnRise hcsn h bits
  · exact State.sampleBit_counts hcsn hheld hbits sdi
  · rw [State.sampleBit_completes hcsn hheld hbits, Port.rowOfByte]
    cases s.port.phase <;> cases s.port.direction <;> rfl
  · exact State.sampleBit_idle h sdi

/-! ### Reads -/

/-- The snapshot of the window, address by address. -/
theorem State.takeSnapshot_eq (s : State) :
    s.takeSnapshot =
      { window := Vector.ofFn fun i : Fin 256 => s.windowByte (BitVec.ofNat 8 i.val)
        latest := Vector.ofFn fun c : Fin 16 => (s.monitors[c]).latest.map Latest.value } := by
  have haddress (i : Fin 256) : BitVec.ofFin (w := 8) i = BitVec.ofNat 8 i.val :=
    BitVec.eq_of_toNat_eq (by simp)
  simp only [State.takeSnapshot, haddress]

theorem exec_readSnapshot (hphase : s.port.phase = .address) (hread : s.port.direction = .read) (v : Byte) :
    exec (.readSnapshot v) s = .next
      { s with port := { s.port with phase := .data, pointer := v, snapshot := some s.takeSnapshot } } :=
  State.occur_possible (decide_eq_true ⟨hphase, hread⟩)

theorem exec_readDataByte (hphase : s.port.phase = .data) (hread : s.port.direction = .read) :
    exec .readDataByte s = .next { s with port := s.port.clockOut } :=
  State.occur_possible (decide_eq_true ⟨hphase, hread⟩)

/-- A byte clocked out moves the pointer, and is marked under the modifier in the latest-value window (R162, R165). -/
theorem Port.clockOut_eq (p : Port) :
    p.clockOut =
      { p with
        pointer := p.pointer + 1
        clocked := Vector.ofFn fun k : Fin 32 => p.clocked[k] || p.acknowledge && p.pointer.toNat == 128 + k.val } := by
  have hmarks : (if p.acknowledge ∧ 0x80 ≤ p.pointer.toNat ∧ p.pointer.toNat < 0xA0 then
        p.clocked.setIfInBounds (p.pointer.toNat - 0x80) true else p.clocked) =
      Vector.ofFn fun k : Fin 32 => p.clocked[k] || p.acknowledge && p.pointer.toNat == 128 + k.val := by
    ext1 k hk
    rw [Vector.getElem_ofFn]
    split_ifs with hmarked
    · obtain ⟨hacknowledge, hlow, hhigh⟩ := hmarked
      have hplace : p.pointer.toNat - 0x80 = k ↔ p.pointer.toNat = 128 + k := by omega
      rw [Vector.getElem_setIfInBounds]
      by_cases hmark : p.pointer.toNat = 128 + k
      · rw [if_pos (hplace.mpr hmark)]
        simp [hacknowledge, hmark]
      · rw [if_neg (hplace.not.mpr hmark)]
        simp [hmark]
    · have hnone : (p.acknowledge && p.pointer.toNat == 128 + k) = false := by
        rw [Bool.eq_false_iff, ne_eq, Bool.and_eq_true, beq_iff_eq]
        exact fun ⟨hacknowledge, hk⟩ => hmarked ⟨hacknowledge, by omega, by omega⟩
      simp [hnone]
  rw [Port.clockOut, hmarks]

/-- SDO is driven with the byte shown while CSN is low, out of reset (R146, R160). -/
theorem State.sdo_driven (hcsn : s.port.csnLow = true) (hheld : s.held = false) : s.sdo = some s.port.shown := by
  simp [State.sdo, hcsn, hheld]

theorem State.sdoLevel_driven (hcsn : s.port.csnLow = true) (hheld : s.held = false) {k : Fin 8}
    (hbits : s.port.bits.length = k.val) : s.sdoLevel = some (s.port.shown.getLsbD (7 - k.val)) := by
  rw [State.sdoLevel, State.sdo_driven hcsn hheld, hbits, Option.map_some, BitVec.getMsbD_eq_getLsbD,
    decide_eq_true k.isLt, Bool.true_and]

theorem State.sdo_released (h : s.port.csnLow = false ∨ s.held = true) : s.sdo = none := by
  obtain h | h := h <;> simp [State.sdo, h]

theorem Port.shown_reading {p : Port} (hphase : p.phase = .data) (hread : p.direction = .read) {w : ReadSnapshot}
    (h : p.snapshot = some w) : p.shown = w.window[p.pointer.toNat]'p.pointer.isLt := by
  simp [Port.shown, hphase, hread, h]

theorem Port.shown_otherwise {p : Port} (h : p.phase ≠ .data ∨ p.direction = .write) : p.shown = 0 := by
  refine if_neg fun ⟨hphase, hread⟩ => ?_
  obtain h | h := h
  · exact h hphase
  · exact nomatch hread.symm.trans h

/-- Settles O38: the snapshot, the bytes clocked out, and what SDO shows. -/
theorem readsSeeOneSnapshot : Obligations.ReadsSeeOneSnapshot := by
  intro v w k s taken
  refine ⟨fun hphase hread => ?_, fun hphase hread => ?_, fun h => ?_, fun hcsn hheld hbits => ?_⟩
  · rw [exec_readSnapshot hphase hread, State.takeSnapshot_eq]
  · rw [exec_readDataByte hphase hread, Port.clockOut_eq]
  · rw [State.sdoLevel, State.sdo_released h]
    exact ⟨rfl, rfl⟩
  · rw [State.sdo_driven hcsn hheld, State.sdoLevel_driven hcsn hheld hbits]
    refine ⟨fun hphase hread hw => ?_, fun h => ?_⟩
    · rw [Port.shown_reading hphase hread hw]
      exact ⟨rfl, rfl⟩
    · rw [Port.shown_otherwise h]
      exact ⟨rfl, congrArg some BitVec.getLsbD_zero⟩

end
end Sys2Proof.Machine
end

section
/-! SUPPORT. The pins and the rows to come along the rows: no operation changes them but the rows that drive a pin; and
the statement that every row answers a next state. -/

namespace Sys2Proof.Machine

section
variable (s : State)

/-! ### What no operation of the part changes -/

/-- What stands outside the part: the levels at its pins and the rows to come. -/
def State.outside : Pins × List Instr := (s.pins, s.pending)

theorem State.ServesOnly.outside_eq {s t : State} (h : s.ServesOnly t) : t.outside = s.outside := by
  have k := congrArg State.outside h
  exact k

/-- Operations in a row that each leave it. -/
theorem State.foldl_outside {α : Type} {f : State → α → State} (hf : ∀ t a, (f t a).outside = t.outside) (l : List α) :
    (l.foldl f s).outside = s.outside :=
  List.foldlRecOn (motive := fun t : State => t.outside = s.outside) l f rfl fun t ht a _ => (hf t a).trans ht

@[simp] theorem State.arbitrate_outside : s.arbitrate.outside = s.outside := s.arbitrate_servesOnly.outside_eq

@[simp] theorem State.endRequest_outside (k : Converter) : (s.endRequest k).outside = s.outside := by
  rw [State.endRequest_eq]
  rfl

@[simp] theorem State.goOn_outside (p : Nat) : (s.goOn p).outside = s.outside := by
  have hturn := (State.takeTurn_servesOnly p s).outside_eq
  unfold State.goOn
  split
  · next t h => rw [h] at hturn; exact hturn
  · next t h => rw [h] at hturn; simpa using hturn

@[simp] theorem State.abortWork_endPausing_outside (reason : AbortReason) (k : Converter) :
    (s.abortWork reason k).endPausing.outside = s.outside := by
  rw [State.abortWork_endPausing, State.endRequest_outside]
  rfl

@[simp] theorem State.expire_outside (c : Fin 16) : (s.expire c).outside = s.outside :=
  (State.expire_frame c s).outside_eq

@[simp] theorem State.takeExpiries_outside : s.takeExpiries.outside = s.outside := by
  refine s.foldl_outside (fun t c => ?_) channelOrder
  split
  · exact t.expire_outside c
  · rfl

@[simp] theorem State.acceptTrigger_outside (i : Fin 2) : (s.acceptTrigger i).outside = s.outside :=
  (State.acceptTrigger_frame i s).outside_eq

@[simp] theorem State.putReference_outside (c : Fin 16) (f : Option Word16) :
    (s.putReference c f).outside = s.outside := by
  rw [State.putReference_eq]
  rfl

/-! ### Commands -/

theorem State.startCommand_outside : s.startCommand.state.outside = s.outside := by
  unfold State.startCommand
  split
  · rw [State.accept_state, State.arbitrate_outside, State.takeExpiries_outside]
    simp only [State.armAll, State.outside]
  · rfl

theorem State.pauseCommand_outside : s.pauseCommand.state.outside = s.outside := by
  unfold State.pauseCommand
  split
  · split <;> rfl
  all_goals rfl

theorem State.resumeCommand_outside : s.resumeCommand.state.outside = s.outside := by
  unfold State.resumeCommand
  split
  case h_2 => exact State.arbitrate_outside _
  all_goals rfl

theorem State.stopCommand_outside : s.stopCommand.state.outside = s.outside := by
  cases haccepts : s.scheduler.accepts with
  | true => rw [State.stopCommand_eq haccepts]; rfl
  | false => simp [State.stopCommand, haccepts]

theorem State.abortCommand_outside : s.abortCommand.state.outside = s.outside := by
  unfold State.abortCommand
  split
  case h_1 | h_2 => exact s.abortWork_endPausing_outside _ _
  all_goals rfl

theorem State.postCommand_outside : s.postCommand.state.outside = s.outside := by
  unfold State.postCommand
  split
  · rfl
  · split
    · rfl
    · dsimp only
      split_ifs
      case neg => exact (State.postImmediate_servesOnly _ s).outside_eq
      all_goals rfl

theorem State.softTriggerCommand_outside : s.softTriggerCommand.state.outside = s.outside := by
  unfold State.softTriggerCommand
  split
  · rfl
  · split
    · rfl
    · split_ifs
      case neg => exact s.acceptTrigger_outside _
      all_goals rfl

theorem State.calibrateCommand_outside : s.calibrateCommand.state.outside = s.outside := by
  unfold State.calibrateCommand
  split_ifs
  case neg => exact s.foldl_outside (fun t m => (State.postMaintenance_servesOnly m t).outside_eq) _
  all_goals rfl

theorem State.recadence_outside (i : Fin 16) (old : ChannelRecord) : (s.recadence i old).outside = s.outside := by
  rw [State.recadence_eq]
  split_ifs
  case neg =>
    unfold State.arm
    split
    · exact State.expire_outside _ i
    · rfl
  all_goals rfl

theorem State.storeChannel_outside (i : Fin 16) (new : ChannelRecord) :
    (s.storeChannel i new).outside = s.outside := by
  unfold State.storeChannel
  dsimp only
  rw [State.evaluate_eq]
  refine (State.recadence_outside _ i _).trans ?_
  split
  · rw [State.disable_eq]; rfl
  · rfl

theorem State.writeTableCommand_outside : s.writeTableCommand.state.outside = s.outside := by
  unfold State.writeTableCommand
  split
  · unfold State.writeChannel
    split
    · rfl
    · exact s.storeChannel_outside _ _
  · unfold State.writeGroup
    split
    · rfl
    · split_ifs <;> rfl
  · unfold State.writeTrigger
    split
    · rfl
    · split_ifs <;> rfl
  · unfold State.writePhase
    split <;> rfl
  all_goals rfl

theorem State.readTableCommand_outside : s.readTableCommand.state.outside = s.outside := by
  unfold State.readTableCommand
  split
  · rfl
  · simp only [State.accept_state, State.outside]

theorem State.swapCommand_outside : s.swapCommand.state.outside = s.outside := by
  unfold State.swapCommand
  split_ifs <;> rfl

theorem State.releaseCommand_outside : s.releaseCommand.state.outside = s.outside := by
  unfold State.releaseCommand
  split
  · rfl
  · dsimp only
    split_ifs <;> rfl

theorem State.configCommand_outside : s.configCommand.state.outside = s.outside := by
  unfold State.configCommand
  dsimp only
  split
  · rfl
  · split_ifs <;> rfl

theorem State.setReferenceCommand_outside : s.setReferenceCommand.state.outside = s.outside := by
  unfold State.setReferenceCommand
  split
  · rfl
  · split_ifs <;> simp

theorem State.setTickCommand_outside : s.setTickCommand.state.outside = s.outside := by
  unfold State.setTickCommand
  split_ifs <;> rfl

/-- A command's byte leaves what the command leaves. -/
theorem State.takeCommand_outside (code : Byte) {f : State → Answer}
    (hf : ∀ t : State, (f t).state.outside = t.outside) : (s.takeCommand code f).outside = s.outside := by
  by_cases hs : s.scheduler = .starting
  · rw [State.takeCommand_starting _ _ _ hs]
    rfl
  · rw [State.takeCommand_eq _ _ _ hs, Answer.leave_eq]
    exact hf s.advance

theorem State.resetCommand_outside : s.resetCommand.outside = s.outside := by
  unfold State.resetCommand
  split
  · exact s.takeCommand_outside _ fun _ => rfl
  · rfl

/-! ### Registers and events -/

/-- A register's byte leaves what its effect leaves. -/
theorem State.takeRegister_outside {f : State → State} (hf : ∀ t : State, (f t).outside = t.outside) :
    (s.takeRegister f).outside = s.outside := by
  rw [State.takeRegister_eq]
  split
  · rfl
  · exact hf s.advance

theorem State.clearFlagsHigh_outside (v : Byte) : (s.clearFlagsHigh v).outside = s.outside := by
  unfold State.clearFlagsHigh State.requestRefFaultClear
  dsimp only
  split_ifs
  · rfl
  · exact State.arbitrate_outside _
  · rfl
  · rfl

theorem State.requestDeviationClear_outside (k : Nat) (v : Byte) :
    (s.requestDeviationClear k v).outside = s.outside := by
  simp only [State.requestDeviationClear, State.outside]

theorem State.storeByte_outside (a v : Byte) : (s.storeByte a v).outside = s.outside := by
  unfold State.storeByte
  dsimp only
  split_ifs <;> rfl

theorem State.csnFalls_outside (sclkHigh : Bool) : (s.csnFalls sclkHigh).outside = s.outside := by
  unfold State.csnFalls
  split <;> rfl

theorem State.acknowledge_outside : s.acknowledge.outside = s.outside := by
  obtain ⟨v, hv⟩ := s.acknowledge_frame
  rw [hv]
  rfl

theorem State.leaveStarting_outside : s.leaveStarting.outside = s.outside := by
  rw [State.leaveStarting_eq]
  rfl

theorem State.tick_outside : s.tick.outside = s.outside := by
  rw [← s.takeExpiries_outside]
  simp only [State.tick, State.outside]

theorem State.haltForReference_outside : s.haltForReference.outside = s.outside := by
  unfold State.haltForReference
  split
  case h_4 =>
    dsimp only
    split
    · exact s.abortWork_endPausing_outside _ _
    · rfl
  case h_5 | h_6 => rfl
  all_goals exact s.abortWork_endPausing_outside _ _

theorem State.completeMember_outside (raw : Word16) (r : Request) (c : Fin 16) (m : MemberSnapshot) :
    (s.completeMember raw r c m).outside = s.outside := by
  rw [State.completeMember_eq, State.goOn_outside]
  rfl

theorem State.completeCalibration_outside {request : Merged CalTarget}
    (hcurrent : s.seq.current = some (.maintenance request)) (raw : Word16) :
    (s.completeCalibration raw request).outside = s.outside := by
  rw [State.completeCalibration_eq hcurrent rfl, State.arbitrate_outside]
  rfl

theorem State.endRecovery_outside : s.endRecovery.outside = s.outside := by
  unfold State.endRecovery
  split_ifs
  · rfl
  · exact s.goOn_outside _
  · exact State.arbitrate_outside _

/-- A trigger input's level is a pin; the rows to come are left. -/
theorem State.changeLevel_pending (i : Fin 2) (level : Bool) : (s.changeLevel i level).pending = s.pending := by
  unfold State.changeLevel
  dsimp only
  split_ifs
  · rfl
  · exact congrArg Prod.snd (State.acceptTrigger_outside _ i)
  · rfl

end

/-! ### Every row -/

/-- A next state with the rows to come left, with the pins left unless the row is one that drives them, and with nothing
changed unless the row is possible (log 1). -/
def Answers (s : State) (possible driven : Bool) (o : Host.Outcome State Fault Refusal) : Prop :=
  ∃ t, o = .next t ∧ t.pending = s.pending ∧ (driven = false → t.pins = s.pins) ∧ (possible = false → t = s)

section
variable {s t u : State} {possible driven : Bool}

/-- A row that leaves the rows to come and, unless it drives them, the pins. -/
theorem answers_occur (hpending : t.pending = s.pending) (hpins : driven = false → t.pins = s.pins) :
    Answers s possible driven (s.occur possible t) := by
  cases possible
  · exact ⟨s, rfl, rfl, fun _ => rfl, fun _ => rfl⟩
  · exact ⟨t, rfl, hpending, hpins, nofun⟩

theorem answers_of_outside (h : t.outside = s.outside) : Answers s possible driven (s.occur possible t) :=
  answers_occur (congrArg Prod.snd h) fun _ => congrArg Prod.fst h

/-- A row that drives the pins. -/
theorem answers_of_driven (h : t.pending = s.pending) : Answers s possible true (s.occur possible t) :=
  answers_occur h nofun

/-- A row with one effect at one address and another at another. -/
theorem answers_either {a b : Bool} (ht : t.outside = s.outside) (hu : u.outside = s.outside) :
    Answers s (a || b) driven (if a then .next t else s.occur b u) := by
  cases a
  · exact answers_of_outside hu
  · exact answers_of_outside (possible := true) ht

/-- The row of a command. -/
theorem answers_command {code : Byte} {f : State → Answer} (hf : ∀ t : State, (f t).state.outside = t.outside) :
    Answers s possible driven (s.occur possible (s.takeCommand code f)) :=
  answers_of_outside (s.takeCommand_outside code hf)

/-- The row of a register. -/
theorem answers_register {f : State → State} (hf : ∀ t : State, (f t).outside = t.outside) :
    Answers s possible driven (s.occur possible (s.takeRegister f)) :=
  answers_of_outside (s.takeRegister_outside hf)

/-- A member's completion asks for a member in flight besides the converter's state. -/
theorem exec_conversionCompletion_answers (raw : Word16) (s : State) :
    Answers s (occurs (.conversionCompletion raw) s) driven (exec (.conversionCompletion raw) s) := by
  simp only [occurs, exec, execConversionCompletion]
  cases hflight : s.seq.inFlight with
  | none => exact ⟨s, rfl, rfl, fun _ => rfl, fun _ => rfl⟩
  | some member =>
    rw [Option.isSome_some, Bool.and_true]
    exact answers_of_outside (s.completeMember_outside raw _ _ _)

/-- A calibration's completion asks for a calibration besides the converter's state. -/
theorem exec_calibrationCompletion_answers (raw : Word16) (s : State) :
    Answers s (occurs (.calibrationCompletion raw) s) driven (exec (.calibrationCompletion raw) s) := by
  cases hcurrent : s.seq.current with
  | none =>
    simp only [occurs, exec, execCalibrationCompletion, hcurrent]
    exact ⟨s, rfl, rfl, fun _ => rfl, fun _ => rfl⟩
  | some r =>
    cases r with
    | maintenance request =>
      simp only [occurs, exec, execCalibrationCompletion, hcurrent, Bool.and_true]
      exact answers_of_outside (s.completeCalibration_outside hcurrent raw)
    | immediate _ | triggered _ | cadence _ =>
      simp only [occurs, exec, execCalibrationCompletion, hcurrent]
      exact ⟨s, rfl, rfl, fun _ => rfl, fun _ => rfl⟩

/-- Each of the 46 rows answers a next state. -/
theorem exec_answers (c : Instr) (s : State) : Answers s (occurs c s) (drivesPins c) (exec c s) := by
  cases c with
  | start => exact answers_command State.startCommand_outside
  | pause => exact answers_command State.pauseCommand_outside
  | resume => exact answers_command State.resumeCommand_outside
  | stop => exact answers_command State.stopCommand_outside
  | abortCurrent => exact answers_command State.abortCommand_outside
  | post => exact answers_command State.postCommand_outside
  | softTrigger => exact answers_command State.softTriggerCommand_outside
  | calibrate => exact answers_command State.calibrateCommand_outside
  | tableRead => exact answers_command State.readTableCommand_outside
  | tableWrite => exact answers_command State.writeTableCommand_outside
  | swapBanks => exact answers_command State.swapCommand_outside
  | ringRelease => exact answers_command State.releaseCommand_outside
  | ringClear => exact answers_command fun _ => rfl
  | ringConfig => exact answers_command State.configCommand_outside
  | setReference => exact answers_command State.setReferenceCommand_outside
  | setTick => exact answers_command State.setTickCommand_outside
  | deviceReset => exact answers_of_outside s.resetCommand_outside
  | unknownCommandCode code => exact answers_command fun _ => rfl
  | clearLatchedFlag value =>
    exact answers_either (s.takeRegister_outside fun _ => rfl)
      (s.takeRegister_outside fun t => t.clearFlagsHigh_outside value)
  | refFaultClear value => exact answers_register fun t => t.clearFlagsHigh_outside value
  | alertEnableWrite value =>
    exact answers_either (s.takeRegister_outside fun _ => rfl) (s.takeRegister_outside fun _ => rfl)
  | alertMasterWrite value => exact answers_register fun _ => rfl
  | deviationSetClearRequest value =>
    exact answers_either (s.takeRegister_outside fun t => t.requestDeviationClear_outside 0 value)
      (s.takeRegister_outside fun t => t.requestDeviationClear_outside 1 value)
  | registerWrite value => exact answers_register fun t => t.storeByte_outside _ value
  | acknowledgingRead partialBits => exact answers_of_outside s.acknowledge_outside
  | readSnapshot | headerByte | writeAddressByte | readDataByte | csnRise | holdoffEnd | endOfSettling =>
    exact answers_of_outside rfl
  | csnFall sclkHigh => exact answers_of_outside (s.csnFalls_outside sclkHigh)
  | endOfStarting => exact answers_of_outside s.leaveStarting_outside
  | tick => exact answers_of_outside s.tick_outside
  | cadenceExpiry channel => exact answers_of_outside (s.expire_outside channel)
  | conversionCompletion raw => exact exec_conversionCompletion_answers raw s
  | calibrationCompletion raw => exact exec_calibrationCompletion_answers raw s
  | endOfRecovery => exact answers_of_outside s.endRecovery_outside
  | rstnLow | por | referenceRecovery => exact answers_of_driven (possible := true) rfl
  | rstnRise | supplyEstablished => exact answers_of_driven rfl
  | triggerEdge input level => exact answers_of_driven (s.changeLevel_pending input level)
  | referenceOnset =>
    rw [exec_referenceOnset]
    split
    · exact answers_of_driven (possible := true) rfl
    · exact answers_of_driven (possible := true) (congrArg Prod.snd (State.haltForReference_outside _))

end

/-- Settles O2: the answer of each row. -/
theorem everyRowAnswersANextState : Obligations.EveryRowAnswersANextState := exec_answers

end Sys2Proof.Machine
end

section
/-! SUPPORT. The bytes of a write at the alert registers; and the statements on the clears of latched flags, on the
enables and on ALERTN. -/

namespace Sys2Proof.Machine

section
variable {s : State}

/-! ### Bytes that take effect -/

/-- A register's byte out of STARTING has its effect on the state past it. -/
theorem State.takeRegister_of_takesByteAt {a : Byte} (h : s.takesByteAt a) (f : State → State) :
    s.takeRegister f = f s.advance := by
  rw [State.takeRegister_eq, if_neg h.2]

/-- A byte at the first of a row's two addresses. -/
theorem State.occur_first {a : Byte} (h : s.takesByteAt a) (f : State → State) (b : Bool) (t : State) :
    (if s.writingAt a then .next (s.takeRegister f) else s.occur b t) = .next (f s.advance) := by
  rw [if_pos ((State.writingAt_iff _ _).mpr h.1), State.takeRegister_of_takesByteAt h]

/-- A byte at the one address of a row. -/
theorem State.occur_takeRegister {a : Byte} (h : s.takesByteAt a) (f : State → State) :
    s.occur (s.writingAt a) (s.takeRegister f) = .next (f s.advance) := by
  rw [State.occur_possible ((State.writingAt_iff _ _).mpr h.1), State.takeRegister_of_takesByteAt h]

/-- A byte at the second of a row's two addresses. -/
theorem State.occur_second {a b : Byte} (h : s.takesByteAt b) (hab : b ≠ a) (g f : State → State) :
    (if s.writingAt a then .next (s.takeRegister g) else s.occur (s.writingAt b) (s.takeRegister f)) =
      .next (f s.advance) := by
  rw [State.writingAt_eq h.1 a, decide_eq_false hab, if_neg Bool.false_ne_true, State.occur_takeRegister h]

/-! ### The rows of the alert registers -/

theorem exec_clearLatchedFlag_low (hs : s.takesByteAt 0x18) (v : Byte) :
    exec (.clearLatchedFlag v) s = .next (s.advance.clearFlagsLow v) :=
  State.occur_first hs (State.clearFlagsLow v) _ _

theorem exec_clearLatchedFlag_high (hs : s.takesByteAt 0x19) (v : Byte) :
    exec (.clearLatchedFlag v) s = .next (s.advance.clearFlagsHigh v) :=
  State.occur_second hs (by decide) (State.clearFlagsLow v) (State.clearFlagsHigh v)

/-- The row REF_FAULT_CLEAR of a byte with a one at REF_FAULT's position. -/
theorem exec_refFaultClear (hs : s.takesByteAt 0x19) {v : Byte} (hv : v.getLsbD 0 = true) :
    exec (.refFaultClear v) s = .next (s.advance.clearFlagsHigh v) := by
  have hrow : exec (.refFaultClear v) s =
    s.occur (s.writingAt 0x19 && v.getLsbD 0) (s.takeRegister (State.clearFlagsHigh v)) := rfl
  rw [hrow, hv, Bool.and_true, State.occur_takeRegister hs]

/-- Without a one at REF_FAULT's position, a byte at 19h clears the other flags at its ones alone. -/
theorem State.clearFlagsHigh_of_no_request {v : Byte} (hv : v.getLsbD 0 = false) (s : State) :
    s.clearFlagsHigh v = { s with alerts := { s.alerts with flags := s.alerts.flags.clearHigh v } } := by
  rw [State.clearFlagsHigh, hv, if_neg Bool.false_ne_true]

theorem exec_alertEnableWrite_low (hs : s.takesByteAt 0x1A) (v : Byte) :
    exec (.alertEnableWrite v) s = .next (s.advance.storeEnableLow v) :=
  State.occur_first hs (State.storeEnableLow v) _ _

theorem exec_alertEnableWrite_high (hs : s.takesByteAt 0x1B) (v : Byte) :
    exec (.alertEnableWrite v) s = .next (s.advance.storeEnableHigh v) :=
  State.occur_second hs (by decide) (State.storeEnableLow v) (State.storeEnableHigh v)

theorem exec_alertMasterWrite (hs : s.takesByteAt 0x1C) (v : Byte) :
    exec (.alertMasterWrite v) s = .next (s.advance.storeMaster v) :=
  State.occur_takeRegister hs (State.storeMaster v)

/-! ### ALERTN -/

/-- Flags and enables have a bit in common exactly where, at one place, the flag is set and its enable is on. -/
theorem and_setWidth_bne_zero_iff {m n : Nat} (hmn : n ≤ m) (flags : BitVec m) (enables : BitVec n) :
    (flags &&& enables.setWidth m != 0) = true ↔
      ∃ k : Fin n, flags.getLsbD k.val = true ∧ enables.getLsbD k.val = true := by
  have hbits (i : Nat) (hi : i < m) :
      (flags &&& enables.setWidth m).getLsbD i = (flags.getLsbD i && enables.getLsbD i) := by
    rw [BitVec.getLsbD_and, BitVec.getLsbD_setWidth, decide_eq_true hi, Bool.true_and]
  rw [bne_iff_ne, BitVec.ofNat_eq_ofNat]
  constructor
  · intro hne
    by_contra hnone
    refine hne (BitVec.eq_of_getLsbD_eq fun i hi => ?_)
    rw [hbits i hi, BitVec.getLsbD_zero]
    refine Bool.eq_false_iff.mpr fun hboth => hnone ?_
    obtain ⟨hflag, henable⟩ := (Bool.and_eq_true _ _).mp hboth
    exact ⟨⟨i, BitVec.lt_of_getLsbD henable⟩, hflag, henable⟩
  · rintro ⟨k, hflag, henable⟩ hzero
    have hbit := hbits k (k.isLt.trans_le hmn)
    rw [hzero, BitVec.getLsbD_zero, hflag, henable] at hbit
    exact Bool.false_ne_true hbit

/-- ALERTN by the master enable, the hold, and each flag with its enable. -/
theorem State.alertnAsserted_iff (s : State) :
    s.alertnAsserted = true ↔ s.alerts.master = true ∧ s.held = false ∧
      ((∃ k : Fin 8, s.flagsLow.getLsbD k.val = true ∧ s.alerts.enableLow.getLsbD k.val = true)
        ∨ ∃ k : Fin 4, s.flagsHigh.getLsbD k.val = true ∧ s.alerts.enableHigh.getLsbD k.val = true) := by
  have hlow := and_setWidth_bne_zero_iff (le_refl 8) s.flagsLow s.alerts.enableLow
  rw [BitVec.setWidth_eq] at hlow
  rw [← hlow, ← and_setWidth_bne_zero_iff (by decide) s.flagsHigh s.alerts.enableHigh]
  simp only [State.alertnAsserted, State.held, BitVec.zeroExtend, Bool.and_eq_true, Bool.or_eq_true,
    Bool.or_eq_false_iff, Bool.not_eq_true']
  tauto

end

/-! ### The statements -/

/-- Settles O32: 18h by its row, and 19h by its row with and without a request for REF_FAULT. -/
theorem onesClearLatchedFlags : Obligations.OnesClearLatchedFlags := by
  intro v s f
  refine ⟨fun hs => exec_clearLatchedFlag_low hs v, fun hs hv => ?_, fun hs hv => ?_⟩
  · rw [exec_clearLatchedFlag_high hs, State.clearFlagsHigh_of_no_request hv]
    rfl
  · rw [exec_clearLatchedFlag_high hs, exec_refFaultClear hs hv]

/-- Settles O34: each register's byte by its row, and ALERTN flag by flag. -/
theorem enablesStoreAndAlertnFollows : Obligations.EnablesStoreAndAlertnFollows := fun v s =>
  ⟨fun hs => exec_alertEnableWrite_low hs v, fun hs => exec_alertEnableWrite_high hs v,
    fun hs => exec_alertMasterWrite hs v, s.alertnAsserted_iff⟩

end Sys2Proof.Machine
end

section
/-! SUPPORT. Records laid into the staging buffer, and the codes of their fields; and the statements on the data bytes
of a write, on the records read and written back, and on the bytes at the addresses without a row of their own. -/

namespace Sys2Proof.Machine

/-! ### Data bytes and their rows -/

/-- A command code's row carries that code. -/
theorem commandOfCode_known_dataByte : ∀ v ∈ commandCodes, (commandOfCode v).dataByte = some v := by decide

/-- A command code's row is a row of the table. -/
theorem commandOfCode_known_wellFormed : ∀ v ∈ commandCodes, (commandOfCode v).wellFormed = true := by decide

/-- The row of an unknown code is a row of the table for a code that no command has, and for no other. -/
theorem wellFormed_unknownCommandCode_iff {v : Byte} :
    (Instr.unknownCommandCode v).wellFormed = true ↔ v ∉ commandCodes := by
  simp [Instr.wellFormed]

theorem commandOfCode_dataByte (v : Byte) : (commandOfCode v).dataByte = some v := by
  by_cases hcode : v ∈ commandCodes
  · exact commandOfCode_known_dataByte v hcode
  · rw [commandOfCode_unknown hcode, Instr.dataByte]

theorem commandOfCode_wellFormed (v : Byte) : (commandOfCode v).wellFormed = true := by
  by_cases hcode : v ∈ commandCodes
  · exact commandOfCode_known_wellFormed v hcode
  · rw [commandOfCode_unknown hcode, wellFormed_unknownCommandCode_iff]
    exact hcode

/-- The row of any byte at CMD occurs where that byte is due (R167). -/
theorem occurs_commandOfCode (v : Byte) (s : State) : occurs (commandOfCode v) s = s.writingAt 0x14 := by
  by_cases hcode : v ∈ commandCodes
  · simp only [commandCodes, List.mem_cons, List.not_mem_nil, or_false] at hcode
    obtain rfl | rfl | rfl | rfl | rfl | rfl | rfl | rfl | rfl | rfl | rfl | rfl | rfl | rfl | rfl | rfl | rfl := hcode
    all_goals rfl
  · rw [commandOfCode_unknown hcode, occurs, wellFormed_unknownCommandCode_iff.mpr hcode, Bool.and_true]

/-- A register's byte is a row of the table and carries the byte. -/
theorem registerByte_wellFormed_and_dataByte {a : Byte} (ha : a ≠ 0x14) (v : Byte) :
    (rowOfDataByte a v).wellFormed = true ∧ (rowOfDataByte a v).dataByte = some v := by
  unfold rowOfDataByte
  rw [if_neg ha]
  split_ifs with hfault
  · exact ⟨hfault.2, rfl⟩
  all_goals exact ⟨rfl, rfl⟩

theorem rowOfDataByte_command (v : Byte) : rowOfDataByte 0x14 v = commandOfCode v := if_pos rfl

/-- A byte at 19h that requests the clear of REF_FAULT is a row of its own (R151). -/
theorem rowOfDataByte_refFaultClear {v : Byte} (hv : v.getLsbD 0 = true) : rowOfDataByte 0x19 v = .refFaultClear v := by
  rw [rowOfDataByte, if_neg (by decide), if_pos ⟨rfl, hv⟩]

/-- A byte at an address without a row of its own (R163). -/
theorem rowOfDataByte_registerWrite {a : Byte} (ha : a ∉ ownRowAddresses) (v : Byte) :
    rowOfDataByte a v = .registerWrite v := by
  simp only [ownRowAddresses, List.mem_cons, List.not_mem_nil, or_false, not_or] at ha
  simp only [rowOfDataByte, ha, false_and, or_self, if_false]

/-- Every row that carries a data byte stands at an address: CMD for a command's, one of its own for a register's. -/
theorem exists_address_of_dataByte {c : Instr} {v : Byte} (hwell : c.wellFormed = true) (hv : c.dataByte = some v) :
    ∃ a, rowOfDataByte a v = c := by
  cases c with
  | start | pause | resume | stop | abortCurrent | post | softTrigger | calibrate | tableRead | tableWrite | swapBanks
  | ringRelease | ringClear | ringConfig | setReference | setTick | deviceReset =>
    cases hv
    exact ⟨0x14, rfl⟩
  | unknownCommandCode code =>
    cases hv
    exact ⟨0x14, commandOfCode_unknown (wellFormed_unknownCommandCode_iff.mp hwell)⟩
  | refFaultClear value =>
    cases hv
    exact ⟨0x19, rowOfDataByte_refFaultClear hwell⟩
  | clearLatchedFlag value => cases hv; exact ⟨0x18, rfl⟩
  | alertEnableWrite value => cases hv; exact ⟨0x1A, rfl⟩
  | alertMasterWrite value => cases hv; exact ⟨0x1C, rfl⟩
  | deviationSetClearRequest value => cases hv; exact ⟨0x1E, rfl⟩
  | registerWrite value => cases hv; exact ⟨0x00, rowOfDataByte_registerWrite (by decide) _⟩
  | _ => cases hv

/-- Settles O3: CMD's byte by its code, a register's by its address, and back row by row. -/
theorem dataBytesAndRowsAgree : Obligations.DataBytesAndRowsAgree := by
  refine ⟨fun a v s => ?_, fun c v => exists_address_of_dataByte⟩
  by_cases ha : a = 0x14
  · subst ha
    rw [rowOfDataByte_command, occurs_commandOfCode, State.writingAt_iff]
    exact ⟨commandOfCode_wellFormed v, commandOfCode_dataByte v, id⟩
  · obtain ⟨hwell, hbyte⟩ := registerByte_wellFormed_and_dataByte ha v
    exact ⟨hwell, hbyte, fun h => occurs_registerByte h ha v⟩

/-! ### The staging buffer after a record is laid into it -/

@[simp] theorem getElem_stagingOf (l : List Byte) (k : Nat) (hk : k < 40) : (stagingOf l)[k] = l.getD k 0 := by
  simp [stagingOf]

/-- The bytes laid behind a first byte are read back from there. -/
theorem stagingOf_cons_drop_take (x : Byte) {l : List Byte} {n : Nat} (hl : l.length = n) (hn : n ≤ 39) :
    ((stagingOf (x :: l)).toList.drop 1).take n = l := by
  refine List.ext_getElem (by simp; omega) fun k _ hk => ?_
  simp [hk]

/-! ### The codes of a record's fields -/

theorem word16_lowByte_highByte (w : Word16) : word16 (lowByte w) (highByte w) = w := highByte_append_lowByte w

theorem negInputOf_code_self (n : NegInput) : negInputOf n.code = some n := by
  cases n with
  | common => rfl
  | ain pin =>
    have hne : BitVec.ofNat 8 pin.val ≠ 0x10 := fun heq => by
      have hsixteen : pin.val = 16 := (byte_toNat (by omega)).symm.trans (congrArg BitVec.toNat heq)
      omega
    rw [NegInput.code, negInputOf, if_neg hne, byteFin_ofNat (by decide), Option.map_some]

theorem edgeOf_code_self (e : EdgeSelect) : edgeOf e.code = some e := by cases e <;> rfl

theorem slotOf_code_self (e : Slot) : slotOf e.code = some e := by obtain _ | _ | _ | _ | _ := e <;> rfl

/-- Slots laid behind the length decode to themselves. -/
theorem parseSlots_stagingOf (x : Byte) (v : Vector Slot 32) :
    parseSlots (stagingOf (x :: v.toList.map Slot.code)) = some v := by
  have hread : ((stagingOf (x :: v.toList.map Slot.code)).toList.drop 1).take 32 = v.toList.map Slot.code :=
    stagingOf_cons_drop_take x (by simp) (by decide)
  unfold parseSlots
  rw [hread, if_pos (by simp [slotOf_code_self])]
  refine congrArg some (Vector.ext fun k hk => ?_)
  simp [slotOf_code_self]

/-! ### The records read and written back -/

/-- A record within the limits of R5 passes its checks one by one. -/
theorem parseChannel_stagingOf {r : ChannelRecord} (h : r.Valid) : parseChannel (stagingOf r.bytes) = .ok r := by
  obtain ⟨hsettling, hsame, hoffset, hband⟩ := h
  have henable : ¬ ((if r.enabled then 0x01 else 0x00 : Byte) ≠ 0x00
      ∧ (if r.enabled then 0x01 else 0x00 : Byte) ≠ 0x01) := by
    cases r.enabled <;> decide
  have henabled : decide ((if r.enabled then 0x01 else 0x00 : Byte) = 0x01) = r.enabled := by
    cases r.enabled <;> rfl
  have hperiod : ¬ (r.period ≠ 0 ∧ ¬ r.offset.toNat < r.period.toNat) := fun hfails =>
    hfails.2 (hoffset hfails.1)
  simp only [parseChannel, ChannelRecord.bytes, getElem_stagingOf, List.getD_cons_zero, List.getD_cons_succ,
    word16_lowByte_highByte]
  rw [if_neg henable, byteFin_ofNat (by decide), negInputOf_code_self, byteFin_ofNat (by decide)]
  dsimp only
  rw [if_neg hsame, if_neg hsettling, if_neg hperiod, if_neg (Nat.not_lt.mpr hband), henabled]

theorem parseGroup_stagingOf {l : List (Fin 16)} (hlength : l.length ≤ 8) (h : l.Nodup) :
    parseGroup (stagingOf (groupBytes l)) = .ok l := by
  have hcount : ((stagingOf (groupBytes l))[0]).toNat = l.length := by
    rw [getElem_stagingOf]
    exact byte_toNat (by omega)
  have hread : ((stagingOf (groupBytes l)).toList.drop 1).take l.length = l.map fun c => BitVec.ofNat 8 c.val :=
    stagingOf_cons_drop_take _ (by simp) (by omega)
  have hmembers : (l.map fun c => BitVec.ofNat 8 c.val).mapM (byteFin 16) = some l := by
    rw [mapM_byteFin_eq_some, List.map_map]
    exact List.map_congr_left fun c _ => (byte_toNat (by omega)).symm
  rw [parseGroup, hcount, if_neg (by omega), hread, hmembers]
  exact if_pos h

theorem parseTrigger_stagingOf (r : TriggerRecord) : parseTrigger (stagingOf r.bytes) = .ok r := by
  simp [parseTrigger, TriggerRecord.bytes, edgeOf_code_self, byteFin_ofNat, word16_lowByte_highByte]

theorem parsePhase_stagingOf {b : PhaseBank} (h : b.Valid) : parsePhase (stagingOf b.bytes) = .ok b := by
  obtain ⟨hpositive, hlimit, hclass⟩ := h
  have hcount : ((stagingOf b.bytes)[0]).toNat = b.length := by
    rw [getElem_stagingOf]
    exact byte_toNat (by omega)
  have hslots : parseSlots (stagingOf b.bytes) = some b.slots := parseSlots_stagingOf _ b.slots
  rw [parsePhase, hcount, if_neg (by omega), hslots]
  exact if_pos hclass

/-- Settles O25, table by table. -/
theorem recordsReadAndWrittenBackAreTheSame : Obligations.RecordsReadAndWrittenBackAreTheSame :=
  ⟨fun _ => parseChannel_stagingOf, fun _ => parseGroup_stagingOf, parseTrigger_stagingOf,
    fun _ => parsePhase_stagingOf⟩

/-! ### Bytes at the addresses without a row of their own -/

section
variable {s : State}

/-- A place within bounds is written. -/
theorem vector_setIfInBounds_eq_set {α : Type} {n : Nat} (xs : Vector α n) (k : Fin n) (x : α) :
    xs.setIfInBounds k x = xs.set k x :=
  Vector.ext fun _ _ => by rw [Vector.getElem_setIfInBounds, Vector.getElem_set]

/-- The row of such an address out of STARTING stores its byte on the state past it. -/
theorem exec_registerWrite {a : Byte} (hs : s.takesByteAt a) (ha : a ∉ ownRowAddresses) (v : Byte) :
    exec (.registerWrite v) s = .next (s.advance.storeByte a v) := by
  obtain ⟨-, -, rfl⟩ := hs.1
  have hcmd : s.port.pointer ≠ 0x14 := fun heq => ha (by rw [heq]; decide)
  have hpossible : occurs (.registerWrite v) s = true := by
    rw [← rowOfDataByte_registerWrite ha]
    exact occurs_registerByte hs.1 hcmd v
  exact (State.occur_possible hpossible).trans (congrArg _ (State.takeRegister_of_takesByteAt hs _))

theorem State.storeByte_arg {a : Byte} {k : Fin 4} (ha : a.toNat = 16 + k.val) (v : Byte) (s : State) :
    s.storeByte a v = { s with command := { s.command with args := s.command.args.set k v } } := by
  have hplace : a.toNat - 0x10 = k.val := by omega
  rw [State.storeByte, if_pos (by omega), hplace, vector_setIfInBounds_eq_set]

theorem State.storeByte_staging {a : Byte} {k : Fin 40} (ha : a.toNat = 64 + k.val) (v : Byte) (s : State) :
    s.storeByte a v = { s with command := { s.command with staging := s.command.staging.set k v } } := by
  have hplace : a.toNat - 0x40 = k.val := by omega
  rw [State.storeByte, if_neg (by omega), if_pos (by omega), hplace, vector_setIfInBounds_eq_set]

theorem State.storeByte_elsewhere {a : Byte} (ha : a.toNat < 16 ∨ 19 < a.toNat ∧ a.toNat < 64 ∨ 103 < a.toNat)
    (v : Byte) (s : State) : s.storeByte a v = s := by
  rw [State.storeByte, if_neg (by omega), if_neg (by omega)]

end

/-- Settles O36: the argument, the staging byte and the byte ignored, each on the state past the byte. -/
theorem registerWritesStoreOrAreIgnored : Obligations.RegisterWritesStoreOrAreIgnored := by
  intro a v s hs hown
  rw [exec_registerWrite hs hown]
  refine ⟨fun k hk => ?_, fun k hk => ?_, fun ha => ?_⟩
  · rw [State.storeByte_arg hk]
    rfl
  · rw [State.storeByte_staging hk]
    rfl
  · rw [State.storeByte_elsewhere ha]
    rfl

end Sys2Proof.Machine
end

section
/-! SUPPORT. A step on a queue that holds rows and on an empty one. -/

namespace Sys2Proof.Machine

theorem step_of_pending_cons {c : Instr} {rest : List Instr} {s : State} (h : s.pending = c :: rest) :
    step s = exec c { s with pending := rest } := by
  rw [step, h]

theorem step_of_pending_nil {s : State} (h : s.pending = []) : step s = .next s := by
  rw [step, h]

/-- Settles O1: the two cases of the queue, the first on a queue whose front row is `c`. -/
theorem stepTakesTheFrontRow : Obligations.StepTakesTheFrontRow :=
  fun _ _ _ => ⟨step_of_pending_cons rfl, step_of_pending_nil⟩

end Sys2Proof.Machine
end
